-- ==== Sys2Proof/Word.lean ====
section
/-! DEFINITION. The words of the DHGR decode core: the source byte, the 4-bit pattern or colour index, the pixel, and the
three places an operation word comes from. -/

namespace Sys2Proof

/-- A byte of SRC or RASTER, bit 0 the least significant (00_scope R11, 30_encoding R81). -/
abbrev Byte := BitVec 8

/-- A 4-bit pattern before reversal, or a colour index after it (30_encoding R87, 10_state R40). -/
abbrev Index := BitVec 4

/-- A pixel: "an RGB triple of 8-bit channels" (30_encoding R88); 24 bits. -/
structure Pixel where
  r : Byte
  g : Byte
  b : Byte
  deriving DecidableEq, Repr, Inhabited

/-- Where an operation word stands (30_encoding R91, R92; opcode_table.json "format"): the host's 1-bit CMD port, the
1-bit RESET pin, or the sequencer's own seven bits {PH[3:0], PAT[2:0]}. -/
inductive Port where
  | cmd
  | resetPin
  | uop
  deriving DecidableEq, Repr

end Sys2Proof
end

