-- ==== Sys2Proof/Config.lean ====
section
/-! DEFINITION. What the spec leaves open, as constants without a body: nothing in Lean can evaluate them, so a statement
that names one holds for every value of it. -/

namespace Sys2Proof

/-- PALETTE(c): "the open parameter" of 42_palette_lookup R152 and 00_scope R9. Only entries 1 to 15 are used; entry 0 is
fixed by `Machine.palRom`. Log entry 2. -/
opaque Config.palette : Index → Pixel

/-- The byte of SRC at an address where the host has placed nothing: content the spec calls unspecified (10_state R37,
95_test_vectors T-RST). It depends on the address alone, because SRC is constant (20_memory R65). Log entry 3. -/
opaque Config.srcUnplaced : Nat → Byte

/-- Whether a CMD asserted together with RESET is still asserted after the RESET step: the spec does not say. Log entry 7. -/
opaque Config.cmdSurvivesReset : Bool

end Sys2Proof
end

