-- ==== Sys2Proof/Syntax.lean ====
section
/-! DEFINITION. The operations of the core, one constructor per row of spec/opcode_table.json. None has an operand: every
operand of a micro-operation is a register of the sequencer or of the datapath (30_encoding R80, R92). -/

namespace Sys2Proof

/-- The eighteen rows of the opcode table: two host events and sixteen rows of micro-operations, WAIT once for each of the
three phases it waits in (30_encoding R92). -/
inductive Instr where
  /-- The host command (44_sequencer_and_commands R175 to R178). -/
  | decode
  /-- The reset pin (70_reset_and_hazards R230). -/
  | reset
  /-- The length check (44_sequencer_and_commands R181). -/
  | chklen
  /-- The base-offset lookup (40_address_mapper R111). -/
  | amlook
  /-- The four reads of a group (41_nibble_extractor R125). -/
  | fetch4
  /-- Pattern 0 (41_nibble_extractor R128). -/
  | slice0
  /-- Pattern 1 (41_nibble_extractor R129). -/
  | slice1
  /-- Pattern 2 (41_nibble_extractor R130). -/
  | slice2
  /-- Pattern 3 (41_nibble_extractor R131). -/
  | slice3
  /-- Pattern 4 (41_nibble_extractor R132). -/
  | slice4
  /-- Pattern 5 (41_nibble_extractor R133). -/
  | slice5
  /-- Pattern 6 (41_nibble_extractor R134). -/
  | slice6
  /-- The 4-bit reversal (41_nibble_extractor R137). -/
  | rev4
  /-- The palette lookup (42_palette_lookup R151). -/
  | pallook
  /-- The write of one output pixel (43_rasterizer R163). -/
  | wrpix
  /-- WAIT in phase IDLE (44_sequencer_and_commands R180). -/
  | waitIdle
  /-- WAIT in phase DONE (44_sequencer_and_commands R180). -/
  | waitDone
  /-- WAIT in phase FAIL (44_sequencer_and_commands R180). -/
  | waitFail
  deriving DecidableEq, Repr

end Sys2Proof
end

