-- ==== Sys2Proof/Machine/State.lean ====
section
/-! DEFINITION. The state of the DHGR decode core as plain data, its reasons to stop, and its state after reset. -/

namespace Sys2Proof.Machine

/-- The phase PH (10_state R25): which micro-operation runs next. Codes 10 to 15 are never held, so there is no value for them. -/
inductive Phase where
  | idle
  | chklen
  | amlook
  | fetch4
  | slice
  | rev4
  | pallook
  | wrpix
  | done
  | fail
  deriving DecidableEq, Repr

/-- The error code ERR (10_state R31, 60_exceptions R203). Code 3 is never held, so there is no value for it. -/
inductive ErrorCode where
  | noError
  | invalidInputLength
  | outOfRangeAccess
  deriving DecidableEq, Repr

/-- What the host reads as STATUS (10_state R32). -/
inductive Status where
  | idle
  | busy
  | done
  | fail
  deriving DecidableEq, Repr

/-- The eight datapath latches (10_state R23), by name. -/
inductive LatchName where
  | base
  | aux0
  | aux1
  | main0
  | main1
  | pidx
  | cidx
  | pix
  deriving DecidableEq, Repr

/-- A byte memory: (address, byte) pairs. The form every operation keeps is `Memory.wf` (Machine/Ops.lean). An address that
is not listed holds no value, for SRC and for RASTER alike (log entries 3 and 4). -/
abbrev Memory := List Host.Cell

/-- Which bytes of RASTER the host can rely on while no transaction runs: the MODEL's own record, not the spec's (log
entry 5). -/
inductive RasterTrust where
  /-- Every byte: a transaction has reached DONE (44_sequencer_and_commands R184). -/
  | whole
  /-- The listed addresses alone, which the host has written itself (44_sequencer_and_commands R194) since the spec last
  called the content unspecified. The list rises strictly. -/
  | only (addrs : List Nat)
  deriving DecidableEq, Repr

/-- The sequencer position `pc = (PH, ROW, GRP, PAT, VREP, HREP)` (10_state R24). -/
structure Position where
  ph : Phase
  row : Fin 192
  grp : Fin 20
  pat : Fin 7
  vrep : Fin 2
  hrep : Fin 4
  deriving DecidableEq, Repr

/-- The machine. The counters' types hold exactly the values the spec says are ever held (10_state R26 to R29; 30_encoding
R95; log entry 14). A latch is an Option because "holds no value" is the spec's own state of it: RESET and DECODE write it
(44_sequencer_and_commands R177, 70_reset_and_hazards R230, 10_state R39; log entry 1). -/
structure State where
  /-- PH, 4 bits (R25). -/
  ph : Phase
  /-- ROW, 8 bits, 0 to 191 (R26). -/
  row : Fin 192
  /-- GRP, 5 bits, 0 to 19 (R27). -/
  grp : Fin 20
  /-- PAT, 3 bits, 0 to 6 (R28). -/
  pat : Fin 7
  /-- VREP, 1 bit (R29). -/
  vrep : Fin 2
  /-- HREP, 2 bits (R29). -/
  hrep : Fin 4
  /-- BASE (R23): base offset of the current logical row. -/
  base : Option (BitVec 13)
  /-- AUX0 (R23). -/
  aux0 : Option Byte
  /-- AUX1 (R23). -/
  aux1 : Option Byte
  /-- MAIN0 (R23). -/
  main0 : Option Byte
  /-- MAIN1 (R23). -/
  main1 : Option Byte
  /-- PIDX (R23): the pattern before reversal. -/
  pidx : Option Index
  /-- CIDX (R23): the colour index. -/
  cidx : Option Index
  /-- PIX (R23): the pixel of the colour index. -/
  pix : Option Pixel
  /-- ERR, 2 bits (R31). -/
  err : ErrorCode
  /-- The RESET port (R33): the host asserts the pin; a step takes the event. -/
  resetPin : Bool
  /-- The CMD port (R33, 30_encoding R91): true is `DECODE`; a step takes the event. -/
  cmd : Bool
  /-- The SRC_LEN port (R33, R34): the true length of the host's source buffer. -/
  srcLen : Nat
  /-- SRC, addresses 0 to 0x3FFF (20_memory R50): the bytes the host has placed. -/
  src : Memory
  /-- RASTER, addresses 0 to 645119 (20_memory R52): the bytes that hold a value. -/
  raster : Memory
  /-- The MODEL's own field (log entry 5): the spec calls the content of RASTER unspecified whatever the core has written
  (10_state R37, 60_exceptions R206, 70_reset_and_hazards R230), until a transaction reaches DONE. -/
  rasterTrust : RasterTrust
  deriving DecidableEq, Repr

/-- Why a step stops with a fault. -/
inductive Fault where
  /-- A micro-operation read a latch that holds no value: "reading one before it is written is a fault of the model, not a
  zero" (10_state R37, R39; 93_implementation_defined V1). Raised by FETCH4, SLICE0 to SLICE6, REV4, PALLOOK and WRPIX. SAFE:
  the model stops where hardware would use old bits; no reachable state raises it (44_sequencer_and_commands R186). -/
  | latchHoldsNoValue (latch : LatchName)
  deriving DecidableEq, Repr

/-- Why a step refuses. -/
inductive Refusal where
  /-- An instruction that has no meaning in the model yet. Raised by no arm of `exec`. SAFE. -/
  | notModelled (mnemonic : String)
  /-- The sequencer's word selects no operation (30_encoding R95). Raised by `step` only, and by no state, since the types of
  PH and PAT hold no such word. SAFE. -/
  | noOperation (word : Nat)
  deriving DecidableEq, Repr

/-- What a step or a meaning answers. -/
abbrev Result := Host.Outcome State Fault Refusal

/-- The machine right after RESET (10_state R37, 70_reset_and_hazards R230). The three ports are the host's (R33 gives no
value: log entries 6 and 8); SRC and RASTER have nothing listed, their content unspecified (log entries 3, 4 and 5). -/
def State.reset : State where
  ph := .idle
  row := 0
  grp := 0
  pat := 0
  vrep := 0
  hrep := 0
  base := none
  aux0 := none
  aux1 := none
  main0 := none
  main1 := none
  pidx := none
  cidx := none
  pix := none
  err := .noError
  resetPin := false
  cmd := false
  srcLen := 0
  src := []
  raster := []
  rasterTrust := .only []

end Sys2Proof.Machine
end

