-- ==== Sys2Proof/Machine/Flags.lean ====
section
/-! DEFINITION. The status the core keeps. It has no arithmetic flags and no condition codes (10_state R30): what there is
to compute is STATUS from PH and the codes of the two ports. -/

namespace Sys2Proof.Machine

/-- The 4-bit code of a phase (10_state R25). -/
def phaseCode : Phase → Nat
  | .idle => 0
  | .chklen => 1
  | .amlook => 2
  | .fetch4 => 3
  | .slice => 4
  | .rev4 => 5
  | .pallook => 6
  | .wrpix => 7
  | .done => 8
  | .fail => 9

/-- The phase of a code; codes 10 to 15 have none (30_encoding R95). -/
def phaseOfCode : Nat → Option Phase
  | 0 => some .idle
  | 1 => some .chklen
  | 2 => some .amlook
  | 3 => some .fetch4
  | 4 => some .slice
  | 5 => some .rev4
  | 6 => some .pallook
  | 7 => some .wrpix
  | 8 => some .done
  | 9 => some .fail
  | _ => none

/-- STATUS is a function of PH (10_state R32). -/
def statusOf : Phase → Status
  | .idle => .idle
  | .done => .done
  | .fail => .fail
  | .chklen => .busy
  | .amlook => .busy
  | .fetch4 => .busy
  | .slice => .busy
  | .rev4 => .busy
  | .pallook => .busy
  | .wrpix => .busy

/-- The host reads STATUS (10_state R33). -/
def State.status (s : State) : Status := statusOf s.ph

/-- The code on the STATUS port: 0 IDLE, 1 BUSY, 2 DONE, 3 FAIL (30_encoding R94). -/
def statusCode : Status → BitVec 2
  | .idle => 0
  | .busy => 1
  | .done => 2
  | .fail => 3

/-- The code on the ERR port: 0 NONE, 1 InvalidInputLength, 2 OutOfRangeAccess (30_encoding R94, 60_exceptions R203). -/
def errorCode : ErrorCode → BitVec 2
  | .noError => 0
  | .invalidInputLength => 1
  | .outOfRangeAccess => 2

/-- The STATUS port. -/
def State.statusPort (s : State) : BitVec 2 := statusCode s.status

/-- The ERR port. -/
def State.errPort (s : State) : BitVec 2 := errorCode s.err

end Sys2Proof.Machine
end

