-- ==== Sys2Proof/Machine/Operands.lean ====
section
/-! DEFINITION. Operand assembly: the seven slices, the 4-bit reversal, the pixel's channels and word, and the addresses of
a group in SRC and of a pixel in RASTER. Every operand is unsigned (30_encoding R90). -/

namespace Sys2Proof.Machine

/-- `p0 = aux0 & 0x0F` (41_nibble_extractor R128). -/
def slice0 (aux0 : Byte) : Index := (aux0 &&& 0x0F).setWidth 4

/-- `p1 = ((main0 & 0x01) << 3) | ((aux0 & 0x70) >> 4)` (R129). -/
def slice1 (main0 aux0 : Byte) : Index := (((main0 &&& 0x01) <<< 3) ||| ((aux0 &&& 0x70) >>> 4)).setWidth 4

/-- `p2 = (main0 & 0x1E) >> 1` (R130). -/
def slice2 (main0 : Byte) : Index := ((main0 &&& 0x1E) >>> 1).setWidth 4

/-- `p3 = ((aux1 & 0x03) << 2) | ((main0 & 0x60) >> 5)` (R131). -/
def slice3 (aux1 main0 : Byte) : Index := (((aux1 &&& 0x03) <<< 2) ||| ((main0 &&& 0x60) >>> 5)).setWidth 4

/-- `p4 = (aux1 & 0x3C) >> 2` (R132). -/
def slice4 (aux1 : Byte) : Index := ((aux1 &&& 0x3C) >>> 2).setWidth 4

/-- `p5 = ((main1 & 0x07) << 1) | ((aux1 & 0x40) >> 6)` (R133). -/
def slice5 (main1 aux1 : Byte) : Index := (((main1 &&& 0x07) <<< 1) ||| ((aux1 &&& 0x40) >>> 6)).setWidth 4

/-- `p6 = (main1 & 0x78) >> 3` (R134). -/
def slice6 (main1 : Byte) : Index := ((main1 &&& 0x78) >>> 3).setWidth 4

/-- Pattern `i` of a group, `i` = 0 to 6 (R128 to R134; the `slice_i` of 44_sequencer_and_commands R190). -/
def sliceOf (i : Fin 7) (aux0 aux1 main0 main1 : Byte) : Index :=
  match i.val with
  | 0 => slice0 aux0
  | 1 => slice1 main0 aux0
  | 2 => slice2 main0
  | 3 => slice3 aux1 main0
  | 4 => slice4 aux1
  | 5 => slice5 main1 aux1
  | _ => slice6 main1

/-- The 28-bit stream `S = {main1[6:0], aux1[6:0], main0[6:0], aux0[6:0]}` (30_encoding R83). -/
def groupStream (aux0 aux1 main0 main1 : Byte) : BitVec 28 :=
  main1.extractLsb' 0 7 ++ aux1.extractLsb' 0 7 ++ main0.extractLsb' 0 7 ++ aux0.extractLsb' 0 7

/-- `rev4(p) = ((p & 1) << 3) | ((p & 2) << 1) | ((p & 4) >> 1) | ((p & 8) >> 3)` (41_nibble_extractor R136). -/
def rev4 (p : Index) : Index :=
  ((p &&& 1) <<< 3) ||| ((p &&& 2) <<< 1) ||| ((p &&& 4) >>> 1) ||| ((p &&& 8) >>> 3)

/-- `rev8(b)[7 - j] = b[j]` (41_nibble_extractor R138), the byte reading of D0's reversal. -/
def rev8 (b : Byte) : Byte :=
  b.extractLsb' 0 1 ++ b.extractLsb' 1 1 ++ b.extractLsb' 2 1 ++ b.extractLsb' 3 1 ++
    b.extractLsb' 4 1 ++ b.extractLsb' 5 1 ++ b.extractLsb' 6 1 ++ b.extractLsb' 7 1

/-- Channel 0, 1, 2 of a pixel is R, G, B (30_encoding R89, 20_memory R57). -/
def channel (p : Pixel) (ch : Nat) : Byte :=
  match ch with
  | 0 => p.r
  | 1 => p.g
  | _ => p.b

/-- The pixel as a 24-bit value {R, G, B} with R in bits 23:16 (30_encoding R88). -/
def pixelWord (p : Pixel) : BitVec 24 := p.r ++ p.g ++ p.b

/-- The pixel of a 24-bit value (30_encoding R88). -/
def pixelOfWord (w : BitVec 24) : Pixel := ⟨w.extractLsb' 16 8, w.extractLsb' 8 8, w.extractLsb' 0 8⟩

/-- D0's `col = 2 * GRP` (10_state R27). -/
def colOf (grp : Nat) : Nat := 2 * grp

/-- SRC address of a bank offset: bit 13 is the bank, 0 auxiliary, 1 main (20_memory R51, 30_encoding R86). -/
def auxAddr (x : Nat) : Nat := x

/-- SRC address of a bank offset in the main bank (20_memory R51). -/
def mainAddr (x : Nat) : Nat := 0x2000 + x

/-- Index column `k = 7 * GRP + PAT` (43_rasterizer R162, 00_scope R14). -/
def indexColumn (grp pat : Nat) : Nat := 7 * grp + pat

/-- Output row `y = 2 * ROW + VREP` (43_rasterizer R161, R162). -/
def outputRow (row vrep : Nat) : Nat := 2 * row + vrep

/-- Output column `x = 4 * k + HREP` (43_rasterizer R160, R162). -/
def outputColumn (k hrep : Nat) : Nat := 4 * k + hrep

/-- Pixel number `P = 560 * y + x` (20_memory R52, 43_rasterizer R162). -/
def pixelNumber (y x : Nat) : Nat := 560 * y + x

/-- First byte address of the pixel at output row `y`, column `x`: `A = 3 * P` (43_rasterizer R162). -/
def rasterAddr (y x : Nat) : Nat := 3 * pixelNumber y x

/-- The byte address WRPIX stores its pixel at, from the position's counters (43_rasterizer R162). -/
def writeAddr (p : Position) : Nat :=
  rasterAddr (outputRow p.row.val p.vrep.val) (outputColumn (indexColumn p.grp.val p.pat.val) p.hrep.val)

end Sys2Proof.Machine
end

