-- ==== Sys2Proof/Machine/Ops.lean ====
section
/-! DEFINITION. The named operations over memory, latches, position, ports and errors. -/

namespace Sys2Proof.Machine

/-! ### Memory -/

/-- The canonical form: addresses strictly rising. An unlisted address holds no value, so no entry can equal what an
unlisted address reads as. -/
abbrev Memory.wf (m : Memory) : Prop := m.Pairwise (fun c d => c.1 < d.1)

/-- Every listed address is below `n`, the size of the space (20_memory R50, R52). -/
abbrev Memory.below (n : Nat) (m : Memory) : Prop := ∀ c ∈ m, c.1 < n

/-- The byte at an address; none where the address is not listed. -/
def Memory.read : Memory → Nat → Option Byte
  | [], _ => none
  | (k, b) :: m, a => if a = k then some b else Memory.read m a

/-- Store a byte, keeping the addresses rising. -/
def Memory.write : Memory → Nat → Byte → Memory
  | [], a, v => [(a, v)]
  | (k, b) :: m, a, v =>
    if a < k then (a, v) :: (k, b) :: m
    else if a = k then (a, v) :: m
    else (k, b) :: Memory.write m a v

/-- `MemWrite(a, 3, (R, G, B))`: R at `a`, G at `a + 1`, B at `a + 2` (20_memory R57, 00_scope R12). -/
def Memory.writePixel (m : Memory) (a : Nat) (p : Pixel) : Memory :=
  ((m.write a p.r).write (a + 1) p.g).write (a + 2) p.b

/-- `MemRead(a, 1)`: the byte of SRC at `a` (00_scope R12, 20_memory R50); a byte the host has not placed is a free value
(log entry 3). -/
def srcByte (src : Memory) (a : Nat) : Byte :=
  match src.read a with
  | some b => b
  | none => Config.srcUnplaced a

/-! ### Reading a latch -/

/-- Read a latch and go on with its value. Where it holds no value the spec says that the model faults: "reading one before
it is written is a fault of the model, not a zero" (10_state R37, R39); "`fault` on read (no read occurs)"
(93_implementation_defined V1). -/
def withLatch {α : Type} (name : LatchName) (latch : Option α) (go : α → Result) : Result :=
  match latch with
  | some v => go v
  | none => .fault (.latchHoldsNoValue name)

/-! ### Writing registers -/

/-- `PH <- p` (00_scope R12). -/
def State.setPh (s : State) (p : Phase) : State := { s with ph := p }

/-- `ERR <- e`. -/
def State.setErr (s : State) (e : ErrorCode) : State := { s with err := e }

/-- `BASE <- b`. -/
def State.setBase (s : State) (b : BitVec 13) : State := { s with base := some b }

/-- The four byte latches of a group. -/
def State.setGroup (s : State) (a0 a1 m0 m1 : Byte) : State :=
  { s with aux0 := some a0, aux1 := some a1, main0 := some m0, main1 := some m1 }

/-- `PIDX <- p`. -/
def State.setPidx (s : State) (p : Index) : State := { s with pidx := some p }

/-- `CIDX <- c`. -/
def State.setCidx (s : State) (c : Index) : State := { s with cidx := some c }

/-- `PIX <- p`. -/
def State.setPix (s : State) (p : Pixel) : State := { s with pix := some p }

/-- RASTER after a write. -/
def State.setRaster (s : State) (m : Memory) : State := { s with raster := m }

/-- What of RASTER the host can rely on (log entry 5). -/
def State.setRasterTrust (s : State) (u : RasterTrust) : State := { s with rasterTrust := u }

/-- The RESET and CMD ports after a step has taken an event from them. -/
def State.setPorts (s : State) (r c : Bool) : State := { s with resetPin := r, cmd := c }

/-- The host's source: its bytes and its length (70_reset_and_hazards R234). -/
def State.setSource (s : State) (m : Memory) (len : Nat) : State := { s with src := m, srcLen := len }

/-! ### The sequencer position -/

/-- The position `pc` (10_state R24). -/
def State.pos (s : State) : Position := ⟨s.ph, s.row, s.grp, s.pat, s.vrep, s.hrep⟩

/-- `pc <- target` writes all of it (00_scope R12). -/
def State.setPos (s : State) (p : Position) : State :=
  { s with ph := p.ph, row := p.row, grp := p.grp, pat := p.pat, vrep := p.vrep, hrep := p.hrep }

/-! ### What DECODE and RESET clear -/

/-- `ERR <- 0`, the five counters `<- 0`, the eight latches `<- no value` (44_sequencer_and_commands R177,
70_reset_and_hazards R230). -/
def State.clearCore (s : State) : State :=
  { s with
    row := 0, grp := 0, pat := 0, vrep := 0, hrep := 0
    base := none, aux0 := none, aux1 := none, main0 := none, main1 := none, pidx := none, cidx := none, pix := none
    err := .noError }

/-! ### Errors: entry, and the one way out -/

/-- `raise E` (60_exceptions R204), which is ABORT (44_sequencer_and_commands R185): `ERR <- code(E)`, `PH <- FAIL`, and
nothing else of the spec's state; nothing is saved and no handler runs. After OutOfRangeAccess RASTER is unspecified
(60_exceptions R206), which the model's own field records (log entry 5). -/
def raiseError (e : ErrorCode) (s : State) : Result :=
  .next (((s.setErr e).setPh .fail).setRasterTrust (if e = .outOfRangeAccess then .only [] else s.rasterTrust))

/-- An accepted DECODE (44_sequencer_and_commands R177); with RESET the only way out of FAIL (60_exceptions R208). -/
def State.accept (s : State) : State := s.clearCore.setPh .chklen

/-! ### Which operation is selected -/

/-- The seven bits {PH[3:0], PAT[2:0]} (30_encoding R92). -/
def State.opWord (s : State) : Nat := 8 * phaseCode s.ph + s.pat.val

/-! ### What the host sees of RASTER -/

/-- A strictly rising list of addresses with one more. -/
def insertAddr : List Nat → Nat → List Nat
  | [], a => [a]
  | k :: l, a => if a < k then a :: k :: l else if a = k then k :: l else k :: insertAddr l a

/-- Whether the host can rely on the byte at `a`. -/
def RasterTrust.covers (u : RasterTrust) (a : Nat) : Bool :=
  match u with
  | .whole => true
  | .only l => decide (a ∈ l)

/-- The record after the host has itself written the byte at `a`. -/
def RasterTrust.add (u : RasterTrust) (a : Nat) : RasterTrust :=
  match u with
  | .whole => .whole
  | .only l => .only (insertAddr l a)

/-- The record's form: addresses strictly rising, each of them one of RASTER's (20_memory R52). -/
abbrev RasterTrust.wf (u : RasterTrust) : Prop :=
  match u with
  | .whole => True
  | .only l => l.Pairwise (· < ·) ∧ ∀ a ∈ l, a < 645120

/-- What a host read of RASTER gives. -/
inductive RasterView where
  /-- The address is not one of the 645120 of 20_memory R52. -/
  | noSuchByte
  /-- The byte's content is unspecified to the host. -/
  | unspecified
  /-- The byte. -/
  | byte (b : Byte)
  deriving DecidableEq, Repr

/-- The host reads RASTER at `a`: unspecified while BUSY (70_reset_and_hazards R237, 20_memory R66), while the content is
unspecified (10_state R37; 60_exceptions R206; 70_reset_and_hazards R230) at an address the host has not written since, and
where no byte holds a value. -/
def State.rasterView (s : State) (a : Nat) : RasterView :=
  if 645120 ≤ a then .noSuchByte
  else if s.status = .busy ∨ s.rasterTrust.covers a = false then .unspecified
  else match s.raster.read a with
    | some b => .byte b
    | none => .unspecified

end Sys2Proof.Machine
end

