-- ==== Sys2Proof/Machine/Extractor.lean ====
section
/-! DEFINITION. NX, the packed-nibble extractor: FETCH4, SLICE0 to SLICE6, REV4 (41_nibble_extractor). -/

namespace Sys2Proof.Machine

/-- The four reads of FETCH4 from bank offset `x` on (41_nibble_extractor R125, R126). -/
def State.fetchGroup (s : State) (x : Nat) : State :=
  s.setGroup (srcByte s.src (auxAddr x)) (srcByte s.src (auxAddr (x + 1)))
    (srcByte s.src (mainAddr x)) (srcByte s.src (mainAddr (x + 1)))

/-- FETCH4 (R125): the range test, then the four reads, then `PH <- SLICE`. -/
def execFetch4 (s : State) : Result :=
  withLatch .base s.base fun base =>
    if base.toNat + colOf s.grp.val + 1 ≥ 0x2000 then raiseError .outOfRangeAccess s
    else .next ((s.fetchGroup (base.toNat + colOf s.grp.val)).setPh .slice)

/-- What every slice does with its pattern: `PIDX <- p; PH <- REV4` (R128 to R134). -/
def sliceInto (p : Index) (s : State) : Result := .next ((s.setPidx p).setPh .rev4)

/-- SLICE0 (R128). -/
def execSlice0 (s : State) : Result :=
  withLatch .aux0 s.aux0 fun a => sliceInto (slice0 a) s

/-- SLICE1 (R129). -/
def execSlice1 (s : State) : Result :=
  withLatch .main0 s.main0 fun m => withLatch .aux0 s.aux0 fun a => sliceInto (slice1 m a) s

/-- SLICE2 (R130). -/
def execSlice2 (s : State) : Result :=
  withLatch .main0 s.main0 fun m => sliceInto (slice2 m) s

/-- SLICE3 (R131). -/
def execSlice3 (s : State) : Result :=
  withLatch .aux1 s.aux1 fun a => withLatch .main0 s.main0 fun m => sliceInto (slice3 a m) s

/-- SLICE4 (R132). -/
def execSlice4 (s : State) : Result :=
  withLatch .aux1 s.aux1 fun a => sliceInto (slice4 a) s

/-- SLICE5 (R133). -/
def execSlice5 (s : State) : Result :=
  withLatch .main1 s.main1 fun m => withLatch .aux1 s.aux1 fun a => sliceInto (slice5 m a) s

/-- SLICE6 (R134). -/
def execSlice6 (s : State) : Result :=
  withLatch .main1 s.main1 fun m => sliceInto (slice6 m) s

/-- REV4 (R137): `CIDX <- rev4(PIDX); PH <- PALLOOK`. -/
def execRev4 (s : State) : Result :=
  withLatch .pidx s.pidx fun p => .next ((s.setCidx (rev4 p)).setPh .pallook)

end Sys2Proof.Machine
end

