-- ==== Sys2Proof/Machine/Palette.lean ====
section
/-! DEFINITION. PL, the palette lookup engine: the 16-entry RGB ROM and PALLOOK (42_palette_lookup). -/

namespace Sys2Proof.Machine

/-- `PAL_ROM[c]`: entry 0 is (0, 0, 0), entries 1 to 15 are the open parameter PALETTE (42_palette_lookup R152; 10_state R21;
log entry 2). -/
def palRom (c : Index) : Pixel := if c = 0 then ⟨0, 0, 0⟩ else Config.palette c

/-- PALLOOK (R151): `PIX <- PAL_ROM[CIDX]; PH <- WRPIX`. -/
def execPallook (s : State) : Result :=
  withLatch .cidx s.cidx fun c => .next ((s.setPix (palRom c)).setPh .wrpix)

end Sys2Proof.Machine
end

