-- ==== Sys2Proof/Machine/Sequencer.lean ====
section
/-! DEFINITION. SEQ, the sequencer: the host's DECODE and RESET, CHKLEN, WAIT, and the position function ADVANCE
(44_sequencer_and_commands, 70_reset_and_hazards). -/

namespace Sys2Proof.Machine

/-- ADVANCE, the next-position function (44_sequencer_and_commands R183); its last case is FINISH, `PH <- DONE` (R184). -/
def advance (p : Position) : Position :=
  if p.hrep.val < 3 then { p with hrep := p.hrep + 1, ph := .wrpix }
  else if p.vrep.val = 0 then { p with hrep := 0, vrep := 1, ph := .wrpix }
  else if p.pat.val < 6 then { p with hrep := 0, vrep := 0, pat := p.pat + 1, ph := .slice }
  else if p.grp.val < 19 then { p with hrep := 0, vrep := 0, pat := 0, grp := p.grp + 1, ph := .fetch4 }
  else if p.row.val < 191 then { p with hrep := 0, vrep := 0, pat := 0, grp := 0, row := p.row + 1, ph := .amlook }
  else { p with hrep := 0, vrep := 0, pat := 0, grp := 0, row := 0, ph := .done }

/-- `pc <- target`; at FINISH all of RASTER is written and handed to the host (R184), which the model's own field records. -/
def State.moveTo (s : State) (p : Position) : State :=
  (s.setPos p).setRasterTrust (if p.ph = .done then .whole else s.rasterTrust)

/-- DECODE (R176 to R178): the step takes the command from its port; accepted when STATUS is IDLE, DONE or FAIL, ignored and
not remembered when it is BUSY. -/
def execDecode (s : State) : Result :=
  if s.status = .busy then .next (s.setPorts s.resetPin false)
  else .next (s.accept.setPorts s.resetPin false)

/-- RESET (70_reset_and_hazards R230): the step takes the event from the pin; whatever the phase, PH is IDLE, ERR 0, the
counters 0 and the latches without value; no memory access; RASTER is unspecified (10_state R37). A command asserted
together with it may or may not stay asserted (log entry 7). -/
def execReset (s : State) : Result :=
  .next (((s.clearCore.setPh .idle).setPorts false (s.cmd && Config.cmdSurvivesReset)).setRasterTrust (.only []))

/-- CHKLEN (R181): `if SRC_LEN < 0x4000 then raise InvalidInputLength(SRC_LEN); PH <- AMLOOK`. -/
def execChklen (s : State) : Result :=
  if s.srcLen < 0x4000 then raiseError .invalidInputLength s else .next (s.setPh .amlook)

/-- WAIT (R180) in phase IDLE: "a stuttering step that changes nothing". -/
def execWaitIdle (s : State) : Result := .next s

/-- WAIT (R180) in phase DONE. -/
def execWaitDone (s : State) : Result := .next s

/-- WAIT (R180) in phase FAIL. -/
def execWaitFail (s : State) : Result := .next s

end Sys2Proof.Machine
end

