-- ==== Sys2Proof/Machine/Rasterizer.lean ====
section
/-! DEFINITION. RZ, pixel replication and rasterizer: WRPIX (43_rasterizer). -/

namespace Sys2Proof.Machine

/-- WRPIX (43_rasterizer R163): `MemWrite(A, 3, PIX)` at the address of R162, then `pc <- ADVANCE(pc)`. -/
def execWrpix (s : State) : Result :=
  withLatch .pix s.pix fun p =>
    .next ((s.setRaster (s.raster.writePixel (writeAddr s.pos) p)).moveTo (advance s.pos))

end Sys2Proof.Machine
end

