-- ==== Sys2Proof/Machine/Dispatch.lean ====
section
/-! DEFINITION. One arm per row of spec/opcode_table.json (44_sequencer_and_commands R179). -/

namespace Sys2Proof.Machine

/-- The effect of one operation. -/
def exec (i : Instr) (s : State) : Host.Outcome State Fault Refusal :=
  match i with
  | .decode => Sys2Proof.Machine.execDecode s
  | .reset => Sys2Proof.Machine.execReset s
  | .chklen => Sys2Proof.Machine.execChklen s
  | .amlook => Sys2Proof.Machine.execAmlook s
  | .fetch4 => Sys2Proof.Machine.execFetch4 s
  | .slice0 => Sys2Proof.Machine.execSlice0 s
  | .slice1 => Sys2Proof.Machine.execSlice1 s
  | .slice2 => Sys2Proof.Machine.execSlice2 s
  | .slice3 => Sys2Proof.Machine.execSlice3 s
  | .slice4 => Sys2Proof.Machine.execSlice4 s
  | .slice5 => Sys2Proof.Machine.execSlice5 s
  | .slice6 => Sys2Proof.Machine.execSlice6 s
  | .rev4 => Sys2Proof.Machine.execRev4 s
  | .pallook => Sys2Proof.Machine.execPallook s
  | .wrpix => Sys2Proof.Machine.execWrpix s
  | .waitIdle => Sys2Proof.Machine.execWaitIdle s
  | .waitDone => Sys2Proof.Machine.execWaitDone s
  | .waitFail => Sys2Proof.Machine.execWaitFail s

end Sys2Proof.Machine
end

