-- ==== Sys2Proof/WellFormed.lean ====
section
/-! DEFINITION. Which operation words are well formed. An `Instr` has no operand, so every term of it is well formed; what
can be ill formed is the word a port carries (30_encoding R91, R93, R95). -/

namespace Sys2Proof

/-- The word fits its port: one bit on CMD and on RESET, seven bits in the sequencer (opcode_table.json "width"). -/
def wordFits : Port → Nat → Bool
  | .cmd, w => decide (w < 2)
  | .resetPin, w => decide (w < 2)
  | .uop, w => decide (w < 128)

/-- The word asks for an operation: CMD 0 is "no command" and a RESET pin at 0 is not asserted (30_encoding R91). -/
def wordAsks : Port → Nat → Bool
  | .cmd, w => decide (w ≠ 0)
  | .resetPin, w => decide (w ≠ 0)
  | .uop, _ => true

/-- The phase code is one of the ten of 10_state R25; codes 10 to 15 are never held (30_encoding R95). -/
def phaseCodeHeld : Port → Nat → Bool
  | .uop, w => decide (w / 8 < 10)
  | _, _ => true

/-- In phase SLICE the pattern number is 0 to 6: "`0100111` selects no operation" (30_encoding R95). -/
def patternHeld : Port → Nat → Bool
  | .uop, w => decide (w ≠ 0x27)
  | _, _ => true

/-- All four checks together. -/
def wordWellFormed (p : Port) (w : Nat) : Bool :=
  wordFits p w && wordAsks p w && phaseCodeHeld p w && patternHeld p w

end Sys2Proof
end

