-- ==== Sys2Proof/Decode.lean ====
section
/-! DEFINITION. From an operation word to an operation and back (30_encoding R91 to R95, opcode_table.json). -/

namespace Sys2Proof

/-- Why a word selects no operation; every reason has a name. -/
inductive Reject where
  /-- CMD is 0, "no command", or the RESET pin is not asserted (30_encoding R91). -/
  | notAsserted (p : Port)
  /-- The word has more bits than its port. -/
  | tooWide (p : Port) (word : Nat)
  /-- `0100111`: phase SLICE with PAT = 7 (30_encoding R95). -/
  | reservedPattern
  /-- A phase code 10 to 15 (30_encoding R95). -/
  | reservedPhase (code : Nat)
  deriving DecidableEq, Repr

/-- The sixteen micro-operation rows of the opcode table: mask, match, operation (30_encoding R93; a 0 of the mask is an
`i` of the pattern). -/
def uopTable : List (BitVec 7 × BitVec 7 × Instr) :=
  [(0x78, 0x08, .chklen), (0x78, 0x10, .amlook), (0x78, 0x18, .fetch4)] ++
  [(0x7F, 0x20, .slice0), (0x7F, 0x21, .slice1), (0x7F, 0x22, .slice2), (0x7F, 0x23, .slice3),
   (0x7F, 0x24, .slice4), (0x7F, 0x25, .slice5), (0x7F, 0x26, .slice6)] ++
  [(0x78, 0x28, .rev4), (0x78, 0x30, .pallook), (0x78, 0x38, .wrpix)] ++
  [(0x78, 0x00, .waitIdle), (0x78, 0x40, .waitDone), (0x78, 0x48, .waitFail)]

/-- The micro-operation the seven bits {PH[3:0], PAT[2:0]} select: the row whose pattern they match (30_encoding R92, R93). -/
def decodeUop (w : BitVec 7) : Except Reject Instr :=
  match uopTable.find? (fun row => decide (w &&& row.1 = row.2.1)) with
  | some row => .ok row.2.2
  | none => if w.toNat = 0x27 then .error .reservedPattern else .error (.reservedPhase (w.toNat / 8))

/-- The operation a port's word asks for; total on every word, and a word that asks for none is rejected by name. -/
def decode : Port → Nat → Except Reject Instr
  | .cmd, w => if w = 0 then .error (.notAsserted .cmd) else if w = 1 then .ok .decode else .error (.tooWide .cmd w)
  | .resetPin, w =>
    if w = 0 then .error (.notAsserted .resetPin) else if w = 1 then .ok .reset else .error (.tooWide .resetPin w)
  | .uop, w => if w < 128 then decodeUop (BitVec.ofNat 7 w) else .error (.tooWide .uop w)

/-- The port and the word of an operation, with the true value of the counter PAT in the bits the pattern leaves open
(30_encoding R93; the encoding column of the programs of 95_test_vectors section 3). -/
def encode (pat : Fin 7) : Instr → Port × Nat
  | .decode => (.cmd, 1)
  | .reset => (.resetPin, 1)
  | .chklen => (.uop, 8 * 1 + pat.val)
  | .amlook => (.uop, 8 * 2 + pat.val)
  | .fetch4 => (.uop, 8 * 3 + pat.val)
  | .slice0 => (.uop, 8 * 4 + 0)
  | .slice1 => (.uop, 8 * 4 + 1)
  | .slice2 => (.uop, 8 * 4 + 2)
  | .slice3 => (.uop, 8 * 4 + 3)
  | .slice4 => (.uop, 8 * 4 + 4)
  | .slice5 => (.uop, 8 * 4 + 5)
  | .slice6 => (.uop, 8 * 4 + 6)
  | .rev4 => (.uop, 8 * 5 + pat.val)
  | .pallook => (.uop, 8 * 6 + pat.val)
  | .wrpix => (.uop, 8 * 7 + pat.val)
  | .waitIdle => (.uop, 8 * 0 + pat.val)
  | .waitDone => (.uop, 8 * 8 + pat.val)
  | .waitFail => (.uop, 8 * 9 + pat.val)

/-- The port a table word of `nbits` bits stands on. The table's rows come from three ports and a row's word does not name
its port, so this is the model's reading (log entry 18): one bit is the CMD port; seven bits are the sequencer's word; in
whole bytes (or any other width) the word 1 is the host command, the one row it is spelt out for in full, and every other
word is the sequencer's. The RESET pin's word is the CMD port's word and cannot be told from it. -/
def tablePort (nbits w : Nat) : Port :=
  if nbits ≤ 1 then .cmd else if nbits = 7 then .uop else if w = 1 then .cmd else .uop

/-- The operation `decode` reads from a word of the opcode table. -/
def decodeTableWord (nbits w : Nat) : Option Instr :=
  match decode (tablePort nbits w) w with
  | .ok i => some i
  | .error _ => none

end Sys2Proof
end

