-- ==== Sys2Proof/Machine/Fetch.lean ====
section
/-! DEFINITION. Which operation the next step runs, and the state in which it is a given one. The core fetches no
instructions (20_memory R71): the host's ports and the phase select it. -/

namespace Sys2Proof.Machine

/-- The operation of the next step. The host's events come first, each as a step of its own, RESET before DECODE
(44_sequencer_and_commands R176; 70_reset_and_hazards R230; log entries 6 and 7); otherwise the operation is chosen "by `PH` alone (and by `PAT` when `PH =
SLICE`)" (44_sequencer_and_commands R179). -/
def fetch (s : State) : Except Reject Instr :=
  if s.resetPin then decode .resetPin 1
  else if s.cmd then decode .cmd 1
  else decode .uop s.opWord

/-- The value a latch is given when a phase needs it and it holds none. -/
def fillLatch {α : Type} (needed : Bool) (latch : Option α) (v : α) : Option α :=
  match latch with
  | some x => some x
  | none => if needed then some v else none

/-- In phases FETCH4 to WRPIX the latch BASE holds a value (10_state R38). -/
def needsBase : Phase → Bool
  | .fetch4 => true
  | .slice => true
  | .rev4 => true
  | .pallook => true
  | .wrpix => true
  | _ => false

/-- In phases SLICE to WRPIX the four byte latches hold values (10_state R38). -/
def needsGroup (p : Phase) : Bool := needsBase p && decide (p ≠ .fetch4)

/-- In phases REV4 to WRPIX the latch PIDX holds a value (10_state R38). -/
def needsPidx (p : Phase) : Bool := needsGroup p && decide (p ≠ .slice)

/-- In phases PALLOOK and WRPIX the latch CIDX holds a value (10_state R38). -/
def needsCidx (p : Phase) : Bool := needsPidx p && decide (p ≠ .rev4)

/-- Pattern `i` of the group at bank offset `x`. -/
def groupPattern (src : Memory) (i : Fin 7) (x : Nat) : Index :=
  sliceOf i (srcByte src (auxAddr x)) (srcByte src (auxAddr (x + 1))) (srcByte src (mainAddr x))
    (srcByte src (mainAddr (x + 1)))

/-- Phase `p` with pattern counter `i`: a latch that the phase needs (10_state R38) and that holds no value gets the value
R38 gives it; a latch that holds a value keeps it (log entry 17). -/
def State.enterPhase (s : State) (p : Phase) (i : Fin 7) : State :=
  let x := baseOffset s.row.val + colOf s.grp.val
  { s with
    ph := p
    pat := i
    base := fillLatch (needsBase p) s.base (baseRom s.row)
    aux0 := fillLatch (needsGroup p) s.aux0 (srcByte s.src (auxAddr x))
    aux1 := fillLatch (needsGroup p) s.aux1 (srcByte s.src (auxAddr (x + 1)))
    main0 := fillLatch (needsGroup p) s.main0 (srcByte s.src (mainAddr x))
    main1 := fillLatch (needsGroup p) s.main1 (srcByte s.src (mainAddr (x + 1)))
    pidx := fillLatch (needsPidx p) s.pidx (groupPattern s.src i x)
    cidx := fillLatch (needsCidx p) s.cidx (rev4 (groupPattern s.src i x))
    pix := fillLatch (decide (p = .wrpix)) s.pix (palRom (rev4 (groupPattern s.src i x))) }

/-- The state in which the next step runs the micro-operation of the word {PH[3:0], PAT[2:0]} = `w`. A word whose PAT bits
are 7 leaves the counter PAT as it is (7 is never held, 10_state R28); a phase code without a phase leaves the state as it is. -/
def State.selectUop (s : State) (w : Nat) : State :=
  match phaseOfCode (w / 8) with
  | some p => if h : w % 8 < 7 then s.enterPhase p ⟨w % 8, h⟩ else s.enterPhase p s.pat
  | none => s

/-- The state in which the next step runs the operation of a word on a port. -/
def State.selectWord (s : State) (p : Port) (w : Nat) : State :=
  match p with
  | .cmd => s.setPorts false (decide (w = 1))
  | .resetPin => s.setPorts (decide (w = 1)) false
  | .uop => (s.setPorts false false).selectUop w

end Sys2Proof.Machine
end

