-- ==== Sys2Proof/Machine/Step.lean ====
section
/-! DEFINITION. One step: the selected operation, executed (44_sequencer_and_commands R179). -/

namespace Sys2Proof.Machine

/-- One step of the machine: next state, fault or refusal. -/
def step (s : State) : Host.Outcome State Fault Refusal :=
  match fetch s with
  | .ok i => exec i s
  | .error _ => .refused (.noOperation s.opWord)

/-- `s` with the operation of a table word selected for the very next step (log entry 17). -/
def State.withFetchWord (s : State) (nbits w : Nat) : State :=
  s.selectWord (tablePort nbits w) w

end Sys2Proof.Machine
end

