-- ==== Sys2Proof/Machine/HostSide.lean ====
section
/-! DEFINITION. The moves of the HOST outside a step: placing a buffer, writing RASTER, driving the command and the reset pin
(70_reset_and_hazards R234, 44_sequencer_and_commands R194). They land between steps. -/

namespace Sys2Proof.Machine

/-- Whether SRC, SRC_LEN and RASTER are the host's to change (44_sequencer_and_commands R194): STATUS is not BUSY, and no DECODE
is issued. A DECODE counts as issued from the moment the host drives `CMD = 1` ("given by driving `CMD = 1`", R175; host
writes finish before it, 20_memory R69, 70_reset_and_hazards R235) until a step takes it: the model's reading of a port
without a protocol (log entry 22). -/
def State.hostOwns (s : State) : Bool := decide (s.status ≠ .busy) && !s.cmd

/-- A buffer's bytes as listed bytes from address `a` on. -/
def placeFrom : Nat → List Byte → Memory
  | _, [] => []
  | a, b :: bs => (a, b) :: placeFrom (a + 1) bs

/-- The host places its buffer and drives its true length (R234 (1), (2)): SRC is the buffer's first 0x4000 bytes
(20_memory R50, R55). While BUSY, and after it has issued DECODE, the host has no such move (R235, R236; log entries 11 and 22). -/
def State.hostPlace (s : State) (buffer : List Byte) : Option State :=
  if s.hostOwns then some (s.setSource (placeFrom 0 (buffer.take 0x4000)) buffer.length) else none

/-- The host writes one byte of its RASTER: before DECODE it "may do anything to RASTER" (44_sequencer_and_commands R194),
and after DONE or FAIL it is before the next one. An address outside the 645120 of 20_memory R52 is no byte of RASTER. -/
def State.hostWriteRaster (s : State) (a : Nat) (b : Byte) : Option State :=
  if s.hostOwns = true ∧ a < 645120 then
    some ((s.setRaster (s.raster.write a b)).setRasterTrust (s.rasterTrust.add a))
  else none

/-- The host drives `CMD = 1` (44_sequencer_and_commands R175); the next step takes it. -/
def State.hostDecode (s : State) : State := s.setPorts s.resetPin true

/-- The host asserts RESET (70_reset_and_hazards R230); the next step takes it. -/
def State.hostReset (s : State) : State := s.setPorts true s.cmd

/-- What a hardware SRC_LEN port of `lenw` bits carries for a buffer of `len` bytes: "the host saturates longer lengths"
(10_state R34). -/
def saturateLen (lenw len : Nat) : Nat := min len (2 ^ lenw - 1)

end Sys2Proof.Machine
end

