-- ==== Sys2Proof/Machine/Trace.lean ====
section
/-! DEFINITION. Traces: the operations a run executes, the annotations of a trace line (30_encoding R97) and the
pseudo-operations as their fixed expansions in the canonical order (30_encoding R98, 44_sequencer_and_commands R186). -/

namespace Sys2Proof.Machine

/-- `n` steps; it stops at the first fault or refusal. -/
def stepN : Nat → State → Result
  | 0, s => .next s
  | n + 1, s =>
    match step s with
    | .next t => stepN n t
    | .fault r => .fault r
    | .refused r => .refused r

/-- The operations the next `n` steps execute; it ends early where a step gives no next state. -/
def traceOf : Nat → State → List Instr
  | 0, _ => []
  | n + 1, s =>
    match fetch s with
    | .error _ => []
    | .ok i =>
      match exec i s with
      | .next t => i :: traceOf n t
      | .fault _ => [i]
      | .refused _ => [i]

/-- `SLICEi` (30_encoding R97). -/
def sliceOp (i : Fin 7) : Instr :=
  match i.val with
  | 0 => .slice0
  | 1 => .slice1
  | 2 => .slice2
  | 3 => .slice3
  | 4 => .slice4
  | 5 => .slice5
  | _ => .slice6

/-- `EMIT`: SLICEi, REV4, PALLOOK, then eight WRPIX (30_encoding R98). -/
def emitOps (i : Fin 7) : List Instr := [sliceOp i, .rev4, .pallook] ++ List.replicate 8 .wrpix

/-- `GROUP`: FETCH4 and seven EMIT (30_encoding R98). -/
def groupOps : List Instr := .fetch4 :: (List.finRange 7).flatMap emitOps

/-- `LINE`: AMLOOK and twenty GROUP (30_encoding R98). -/
def lineOps : List Instr := .amlook :: (List.replicate 20 groupOps).flatten

/-- A successful transaction after its command: CHKLEN and 192 LINE (30_encoding R98, 44_sequencer_and_commands R186). -/
def transactionOps : List Instr := .chklen :: (List.replicate 192 lineOps).flatten

/-- A trace line: the mnemonic and the values of the counters it restates (30_encoding R97). -/
def traceLine (i : Instr) (s : State) : String × List Nat :=
  match i with
  | .decode => ("DECODE", [s.srcLen])
  | .reset => ("RESET", [])
  | .chklen => ("CHKLEN", [])
  | .amlook => ("AMLOOK", [s.row.val])
  | .fetch4 => ("FETCH4", [s.row.val, s.grp.val])
  | .slice0 => ("SLICE0", [])
  | .slice1 => ("SLICE1", [])
  | .slice2 => ("SLICE2", [])
  | .slice3 => ("SLICE3", [])
  | .slice4 => ("SLICE4", [])
  | .slice5 => ("SLICE5", [])
  | .slice6 => ("SLICE6", [])
  | .rev4 => ("REV4", [])
  | .pallook => ("PALLOOK", [])
  | .wrpix =>
    ("WRPIX", [outputRow s.row.val s.vrep.val, outputColumn (indexColumn s.grp.val s.pat.val) s.hrep.val])
  | .waitIdle => ("WAIT", [])
  | .waitDone => ("WAIT", [])
  | .waitFail => ("WAIT", [])

end Sys2Proof.Machine
end

