-- ==== Sys2Proof/Machine/BigStep.lean ====
section
/-! DEFINITION. The big-step level: the colour index of a row and column, the raster as a function, and `decode`
(41_nibble_extractor R141, 43_rasterizer R164, 44_sequencer_and_commands R190). It is independent of the sequencer; the two
levels are to agree (44_sequencer_and_commands R191). -/

namespace Sys2Proof.Machine

/-- Pattern `i` of group `g` of row `r`, from a source given as a function of the SRC address (R141). -/
def patternAt (src : Nat → Byte) (r g : Nat) (i : Fin 7) : Index :=
  let b := baseOffset r + 2 * g
  sliceOf i (src b) (src (b + 1)) (src (0x2000 + b)) (src (0x2000 + b + 1))

/-- `cidx(SRC, r, k)`: the colour index at column `k` of logical row `r` (41_nibble_extractor R141). -/
def cidxAt (src : Nat → Byte) (r k : Nat) : Index :=
  rev4 (patternAt src r (k / 7) ⟨k % 7, Nat.mod_lt k (by decide)⟩)

/-- The pixel at output row `y`, output column `x` (43_rasterizer R164). -/
def pixelAt (pal : Index → Pixel) (src : Nat → Byte) (y x : Nat) : Pixel := pal (cidxAt src (y / 2) (x / 4))

/-- `OUT[a]`: channel `a mod 3` of pixel number `a div 3` (43_rasterizer R164, 44_sequencer_and_commands R190). -/
def outByte (pal : Index → Pixel) (src : Nat → Byte) (a : Nat) : Byte :=
  channel (pixelAt pal src (a / 3 / 560) (a / 3 % 560)) (a % 3)

/-- The result of `decode`: "Failure(InvalidInputLength)" or "Success(OUT)" (R190). -/
inductive DecodeResult where
  | failure (e : ErrorCode)
  | success (out : List Byte)
  deriving DecidableEq, Repr

/-- `decode(SRC, SRC_LEN, PALETTE)` (44_sequencer_and_commands R190): 645120 bytes, or a failure. -/
def bigDecode (pal : Index → Pixel) (src : Nat → Byte) (len : Nat) : DecodeResult :=
  if len < 0x4000 then .failure .invalidInputLength
  else .success ((List.range 645120).map (outByte pal src))

/-- A point of the iteration domain: logical row, group, pattern, vertical and horizontal copy (43_rasterizer R167). -/
structure Site where
  row : Fin 192
  grp : Fin 20
  pat : Fin 7
  vrep : Fin 2
  hrep : Fin 4
  deriving DecidableEq, Repr

/-- The byte address of a site's pixel (43_rasterizer R162). -/
def Site.addr (q : Site) : Nat :=
  rasterAddr (outputRow q.row.val q.vrep.val) (outputColumn (indexColumn q.grp.val q.pat.val) q.hrep.val)

/-- The pixel of a site (43_rasterizer R164). -/
def Site.pixel (pal : Index → Pixel) (src : Nat → Byte) (q : Site) : Pixel :=
  pal (rev4 (patternAt src q.row.val q.grp.val q.pat))

/-- RASTER after the writes of a list of sites, in that order: what an implementation that visits the iteration domain in
an order of its own leaves (44_sequencer_and_commands R187, 20_memory R68). -/
def paint (pal : Index → Pixel) (src : Nat → Byte) (m : Memory) (l : List Site) : Memory :=
  l.foldl (fun m q => m.writePixel q.addr (q.pixel pal src)) m

end Sys2Proof.Machine
end

