-- ==== Sys2Proof/Safety.lean ====
section
/-! DEFINITION. What holds of every state the machine can reach: the canonical memories, and the sequencer invariant of
10_state R32, R38 and R39. -/

namespace Sys2Proof.Machine

/-- The two memories keep their form, and list only addresses of their spaces (20_memory R50, R52); so does the
record of the bytes of RASTER the host can rely on (log entry 5). -/
structure State.MemoryInv (s : State) : Prop where
  srcForm : s.src.wf
  srcRange : s.src.below 0x4000
  rasterForm : s.raster.wf
  rasterRange : s.raster.below 645120
  trustForm : s.rasterTrust.wf

/-- SRC as a function of the address: the placed byte, or the free value (log entry 3). -/
def State.srcFun (s : State) : Nat → Byte := srcByte s.src

/-- The bank offset of the group the counters name: `base_offset(ROW) + 2 * GRP` (41_nibble_extractor R126). -/
def State.groupOffset (s : State) : Nat := baseOffset s.row.val + 2 * s.grp.val

/-- The pattern the counters name (41_nibble_extractor R141). -/
def State.patternHere (s : State) : Index := patternAt s.srcFun s.row.val s.grp.val s.pat

/-- The sequencer invariant: what the latches hold in each phase (10_state R38), where the counters stand, where the latches
hold no value (10_state R39), and that ERR is set exactly in FAIL (10_state R32). -/
structure State.SequencerInv (s : State) : Prop where
  /-- "in phases `FETCH4` to `WRPIX`, `BASE = BASE_ROM[ROW]`" (R38). -/
  baseLatch : s.ph ∈ [Phase.fetch4, .slice, .rev4, .pallook, .wrpix] → s.base = some (baseRom s.row)
  /-- "in phases `SLICE` to `WRPIX`, the four byte latches hold the four bytes of group `GRP` of row `ROW`" (R38). -/
  groupLatches : s.ph ∈ [Phase.slice, .rev4, .pallook, .wrpix] →
    s.aux0 = some (s.srcFun s.groupOffset) ∧ s.aux1 = some (s.srcFun (s.groupOffset + 1)) ∧
    s.main0 = some (s.srcFun (0x2000 + s.groupOffset)) ∧ s.main1 = some (s.srcFun (0x2000 + s.groupOffset + 1))
  /-- "in phases `REV4` to `WRPIX`, `PIDX` is the pattern `PAT` of that group" (R38). -/
  pidxLatch : s.ph ∈ [Phase.rev4, .pallook, .wrpix] → s.pidx = some s.patternHere
  /-- "in phases `PALLOOK` and `WRPIX`, `CIDX = rev4(PIDX)`" (R38). -/
  cidxLatch : s.ph ∈ [Phase.pallook, .wrpix] → s.cidx = some (Machine.rev4 s.patternHere)
  /-- "in phase `WRPIX`, `PIX = PAL_ROM[CIDX]`" (R38). -/
  pixLatch : s.ph = .wrpix → s.pix = some (palRom (Machine.rev4 s.patternHere))
  /-- "`VREP` and `HREP` are 0 in every phase but `WRPIX`" (R38, said while BUSY; the model keeps it in every phase). -/
  copies : s.ph ≠ .wrpix → s.vrep = 0 ∧ s.hrep = 0
  /-- PAT is 0 when FETCH4 runs (41_nibble_extractor R125), and before it in the row. -/
  patStart : s.ph ∈ [Phase.idle, .chklen, .amlook, .fetch4, .done] → s.pat = 0
  /-- GRP is 0 when AMLOOK runs (44_sequencer_and_commands R183). -/
  grpStart : s.ph ∈ [Phase.idle, .chklen, .amlook, .done] → s.grp = 0
  /-- ROW is 0 before a transaction's first AMLOOK and after FINISH (R177, R183). -/
  rowStart : s.ph ∈ [Phase.idle, .chklen, .done] → s.row = 0
  /-- From RESET, and from the acceptance of DECODE, until it is written, a latch holds no value (10_state R39). -/
  noValue : s.ph ∈ [Phase.idle, .chklen] →
    s.base = none ∧ s.aux0 = none ∧ s.aux1 = none ∧ s.main0 = none ∧ s.main1 = none ∧ s.pidx = none ∧ s.cidx = none ∧
    s.pix = none
  /-- "`ERR != 0` exactly when `PH = FAIL`" (10_state R32). -/
  errFail : s.err ≠ .noError ↔ s.ph = .fail

/-- No host event stands on the ports: the next step is a micro-operation of CORE. -/
def State.portsIdle (s : State) : Prop := s.resetPin = false ∧ s.cmd = false

/-- The host's command stands on CMD and the next step accepts it (44_sequencer_and_commands R175, R177). -/
def State.StartsTransaction (s : State) : Prop := s.status ≠ .busy ∧ s.resetPin = false ∧ s.cmd = true

end Sys2Proof.Machine
end

