-- ==== Sys2Proof/Certificates/Slice0/Obligations.lean ====
section
/-! DEFINITION. What the model claims, for the provers: one `def Obligations.<Name> : Prop` per entry of OBLIGATIONS.json. -/

open Sys2Proof Sys2Proof.Machine

/-! ### Encoding and selection -/

/-- 44_sequencer_and_commands R176, R179: a step is `exec` of the operation selected: RESET when its pin is asserted, else
DECODE when CMD is 1, else the operation decoded from {PH, PAT}. The order of the three is the model's choice (log entries 6
and 7). -/
def Obligations.StepRunsSelectedOperation : Prop :=
  ∀ s : State,
    (s.resetPin = true → step s = exec .reset s) ∧
    (s.resetPin = false → s.cmd = true → step s = exec .decode s) ∧
    (∀ i, s.portsIdle → decode .uop s.opWord = .ok i → step s = exec i s)

/-- 44_sequencer_and_commands R179, the table of PH against operation: with no host event on the ports. -/
def Obligations.PhaseSelectsOperation : Prop :=
  ∀ s : State, s.portsIdle →
    step s =
      match s.ph with
      | .idle => exec .waitIdle s
      | .chklen => exec .chklen s
      | .amlook => exec .amlook s
      | .fetch4 => exec .fetch4 s
      | .slice => exec (sliceOp s.pat) s
      | .rev4 => exec .rev4 s
      | .pallook => exec .pallook s
      | .wrpix => exec .wrpix s
      | .done => exec .waitDone s
      | .fail => exec .waitFail s

/-- 30_encoding R93: decoding an encoded operation gives it back, for every value of the bits its pattern leaves open. -/
def Obligations.DecodeOfEncode : Prop :=
  ∀ (i : Instr) (pat : Fin 7),
    decode (encode pat i).1 (encode pat i).2 = .ok i ∧ wordWellFormed (encode pat i).1 (encode pat i).2 = true

/-- 30_encoding R91, R92, R93: which words each port's decoder reads as which operation, and no others. -/
def Obligations.DecodesExactlyTheTable : Prop :=
  ∀ (p : Port) (w : Nat) (i : Instr), decode p w = .ok i ↔
    match i with
    | .decode => p = .cmd ∧ w = 1
    | .reset => p = .resetPin ∧ w = 1
    | .chklen => p = .uop ∧ w / 8 = 1
    | .amlook => p = .uop ∧ w / 8 = 2
    | .fetch4 => p = .uop ∧ w / 8 = 3
    | .slice0 => p = .uop ∧ w = 8 * 4 + 0
    | .slice1 => p = .uop ∧ w = 8 * 4 + 1
    | .slice2 => p = .uop ∧ w = 8 * 4 + 2
    | .slice3 => p = .uop ∧ w = 8 * 4 + 3
    | .slice4 => p = .uop ∧ w = 8 * 4 + 4
    | .slice5 => p = .uop ∧ w = 8 * 4 + 5
    | .slice6 => p = .uop ∧ w = 8 * 4 + 6
    | .rev4 => p = .uop ∧ w / 8 = 5
    | .pallook => p = .uop ∧ w / 8 = 6
    | .wrpix => p = .uop ∧ w / 8 = 7
    | .waitIdle => p = .uop ∧ w / 8 = 0
    | .waitDone => p = .uop ∧ w / 8 = 8
    | .waitFail => p = .uop ∧ w / 8 = 9

/-- 95_test_vectors section 3: words of the programs P1, P2, P4 and P5, written out bit by bit. -/
def Obligations.SampleWordsDecode : Prop :=
  decode .uop 0b0001000 = .ok .chklen ∧ decode .uop 0b0010000 = .ok .amlook ∧ decode .uop 0b0011000 = .ok .fetch4 ∧
  decode .uop 0b0100011 = .ok .slice3 ∧ decode .uop 0b0101110 = .ok .rev4 ∧ decode .uop 0b0110110 = .ok .pallook ∧
  decode .uop 0b0111110 = .ok .wrpix ∧ decode .uop 0b1001000 = .ok .waitFail ∧ decode .cmd 0b1 = .ok .decode ∧
  decode .resetPin 0b1 = .ok .reset ∧ decode .uop 0b0100111 = .error .reservedPattern

/-! ### AM, the address mapper -/

/-- 40_address_mapper R110, 10_state R20: the 192 printed values are the formula's. -/
def Obligations.BaseRomIsFormula : Prop :=
  baseRomTable.length = 192 ∧
    ∀ r : Fin 192, (baseRom r).toNat = (r.val % 8) * 0x0400 + ((r.val % 64) / 8) * 0x0080 + (r.val / 64) * 0x0028

/-- 40_address_mapper R113: range. -/
def Obligations.BaseOffsetRange : Prop :=
  (∀ r : Fin 192, (baseRom r).toNat ≤ 0x1FD0 ∧ (baseRom r).toNat < 0x2000 ∧ (baseRom r).toNat + 39 < 0x2000) ∧
    (baseRom 191).toNat = 0x1FD0 ∧ (baseRom 191).toNat + 39 = 0x1FF7

/-- 40_address_mapper R114: no carries. -/
def Obligations.BaseOffsetFields : Prop :=
  ∀ r c : Nat, r < 192 → c ≤ 39 →
    baseOffset r % 8 = 0 ∧ baseOffset r / 1024 = r % 8 ∧ baseOffset r / 128 % 8 = r % 64 / 8 ∧
    baseOffset r % 128 = r / 64 * 40 ∧ (baseOffset r + c) / 128 = baseOffset r / 128 ∧
    (baseOffset r + c) % 128 = r / 64 * 40 + c ∧ r / 64 * 40 + c ≤ 119 ∧
    r / 64 * 0x28 ∈ [0, 0x28, 0x50] ∧ r % 64 / 8 * 0x80 ≤ 0x380

/-- 40_address_mapper R115: the rows do not overlap, and together they cover all but 512 offsets of a bank. -/
def Obligations.RowsDoNotOverlap : Prop :=
  (∀ r r' c c' : Nat, r < 192 → r' < 192 → c ≤ 39 → c' ≤ 39 → baseOffset r + c = baseOffset r' + c' → r = r' ∧ c = c') ∧
  (∀ x : Nat, x < 0x2000 → ((∃ r c : Nat, r < 192 ∧ c ≤ 39 ∧ x = baseOffset r + c) ↔ x % 128 < 120)) ∧
  ((List.range 0x2000).filter (fun x => decide (x % 128 < 120))).length = 7680

/-- 40_address_mapper R111: AMLOOK's whole effect, by the formula of R110. -/
def Obligations.AmlookLoadsBaseOffset : Prop :=
  ∀ s : State, exec .amlook s = .next { s with
    base := some (BitVec.ofNat 13
      ((s.row.val % 8) * 0x0400 + ((s.row.val % 64) / 8) * 0x0080 + (s.row.val / 64) * 0x0028))
    ph := .fetch4 }

/-! ### NX, the extractor -/

/-- 41_nibble_extractor R125, 20_memory R51: FETCH4's whole effect where the range test passes. -/
def Obligations.Fetch4LoadsGroup : Prop :=
  ∀ (s : State) (b : BitVec 13), s.base = some b → b.toNat + 2 * s.grp.val + 1 < 0x2000 →
    exec .fetch4 s = .next { s with
      aux0 := some (s.srcFun (b.toNat + 2 * s.grp.val))
      aux1 := some (s.srcFun (b.toNat + 2 * s.grp.val + 1))
      main0 := some (s.srcFun (0x2000 + b.toNat + 2 * s.grp.val))
      main1 := some (s.srcFun (0x2000 + b.toNat + 2 * s.grp.val + 1))
      ph := .slice }

/-- 60_exceptions R202, R204, R206; 41_nibble_extractor R125: FETCH4 where the range test fails. That no byte of
RASTER is left for the host to rely on is the model's own field (log entry 5). -/
def Obligations.Fetch4RaisesOutOfRange : Prop :=
  ∀ (s : State) (b : BitVec 13), s.base = some b → 0x2000 ≤ b.toNat + 2 * s.grp.val + 1 →
    exec .fetch4 s = .next { s with err := .outOfRangeAccess, ph := .fail, rasterTrust := .only [] }

/-- 41_nibble_extractor R128 to R134: each slice writes PIDX with the fields of its pseudocode, goes to REV4, and changes
nothing else. -/
def Obligations.SlicesCutTheirFields : Prop :=
  ∀ (s : State) (a0 a1 m0 m1 : Byte),
    (s.aux0 = some a0 →
      exec .slice0 s = .next { s with pidx := some (a0.extractLsb' 0 4), ph := .rev4 }) ∧
    (s.main0 = some m0 → s.aux0 = some a0 →
      exec .slice1 s = .next { s with pidx := some (m0.extractLsb' 0 1 ++ a0.extractLsb' 4 3), ph := .rev4 }) ∧
    (s.main0 = some m0 →
      exec .slice2 s = .next { s with pidx := some (m0.extractLsb' 1 4), ph := .rev4 }) ∧
    (s.aux1 = some a1 → s.main0 = some m0 →
      exec .slice3 s = .next { s with pidx := some (a1.extractLsb' 0 2 ++ m0.extractLsb' 5 2), ph := .rev4 }) ∧
    (s.aux1 = some a1 →
      exec .slice4 s = .next { s with pidx := some (a1.extractLsb' 2 4), ph := .rev4 }) ∧
    (s.main1 = some m1 → s.aux1 = some a1 →
      exec .slice5 s = .next { s with pidx := some (m1.extractLsb' 0 3 ++ a1.extractLsb' 6 1), ph := .rev4 }) ∧
    (s.main1 = some m1 →
      exec .slice6 s = .next { s with pidx := some (m1.extractLsb' 3 4), ph := .rev4 })

/-- 30_encoding R83: one formula for the seven slices. -/
def Obligations.SlicesAreTheStream : Prop :=
  ∀ (i : Fin 7) (a0 a1 m0 m1 : Byte),
    groupStream a0 a1 m0 m1 = m1.extractLsb' 0 7 ++ a1.extractLsb' 0 7 ++ m0.extractLsb' 0 7 ++ a0.extractLsb' 0 7 ∧
    sliceOf i a0 a1 m0 m1 = (groupStream a0 a1 m0 m1).extractLsb' (4 * i.val) 4

/-- 30_encoding R82: the table of data bits, pattern by pattern. -/
def Obligations.GroupBitTable : Prop :=
  ∀ a0 a1 m0 m1 : Byte,
    let p := fun (i : Fin 7) (j : Nat) => (sliceOf i a0 a1 m0 m1).getLsbD j
    (a0.getLsbD 6 = p 1 2 ∧ a0.getLsbD 5 = p 1 1 ∧ a0.getLsbD 4 = p 1 0 ∧ a0.getLsbD 3 = p 0 3 ∧
      a0.getLsbD 2 = p 0 2 ∧ a0.getLsbD 1 = p 0 1 ∧ a0.getLsbD 0 = p 0 0) ∧
    (m0.getLsbD 6 = p 3 1 ∧ m0.getLsbD 5 = p 3 0 ∧ m0.getLsbD 4 = p 2 3 ∧ m0.getLsbD 3 = p 2 2 ∧
      m0.getLsbD 2 = p 2 1 ∧ m0.getLsbD 1 = p 2 0 ∧ m0.getLsbD 0 = p 1 3) ∧
    (a1.getLsbD 6 = p 5 0 ∧ a1.getLsbD 5 = p 4 3 ∧ a1.getLsbD 4 = p 4 2 ∧ a1.getLsbD 3 = p 4 1 ∧
      a1.getLsbD 2 = p 4 0 ∧ a1.getLsbD 1 = p 3 3 ∧ a1.getLsbD 0 = p 3 2) ∧
    (m1.getLsbD 6 = p 6 3 ∧ m1.getLsbD 5 = p 6 2 ∧ m1.getLsbD 4 = p 6 1 ∧ m1.getLsbD 3 = p 6 0 ∧
      m1.getLsbD 2 = p 5 3 ∧ m1.getLsbD 1 = p 5 2 ∧ m1.getLsbD 0 = p 5 1)

/-- 41_nibble_extractor R136: `rev4` bit by bit, as arithmetic, as the top nibble of the reversed byte, its table, that it is its own inverse, and its fixed points. -/
def Obligations.Rev4Reverses : Prop :=
  ∀ p : Index,
    ((rev4 p).getLsbD 3 = p.getLsbD 0 ∧ (rev4 p).getLsbD 2 = p.getLsbD 1 ∧ (rev4 p).getLsbD 1 = p.getLsbD 2 ∧
      (rev4 p).getLsbD 0 = p.getLsbD 3) ∧
    rev4 p = ((p &&& 1) <<< 3) ||| ((p &&& 2) <<< 1) ||| ((p &&& 4) >>> 1) ||| ((p &&& 8) >>> 3) ∧
    rev4 p = (rev8 (p.setWidth 8) >>> 4).setWidth 4 ∧
    (rev4 p).toNat = [0, 8, 4, 12, 2, 10, 6, 14, 1, 9, 5, 13, 3, 11, 7, 15].getD p.toNat 16 ∧
    rev4 (rev4 p) = p ∧
    (rev4 p = p ↔ p = 0 ∨ p = 6 ∨ p = 9 ∨ p = 15)

/-- 41_nibble_extractor R138: D0's two readings of the reversal agree on every pattern. -/
def Obligations.ReversalReadingsAgree : Prop :=
  (∀ (b : Byte) (j : Nat), j < 8 → (rev8 b).getLsbD (7 - j) = b.getLsbD j) ∧
  (∀ p : Index, rev8 (p.setWidth 8) >>> 4 = (rev4 p).setWidth 8) ∧
  rev8 1 >>> 4 = 8

/-- 41_nibble_extractor R137: REV4's whole effect. -/
def Obligations.Rev4WritesColourIndex : Prop :=
  ∀ (s : State) (p : Index), s.pidx = some p →
    exec .rev4 s = .next { s with
      cidx := some (p.extractLsb' 0 1 ++ p.extractLsb' 1 1 ++ p.extractLsb' 2 1 ++ p.extractLsb' 3 1)
      ph := .pallook }

/-! ### PL, the palette -/

/-- 42_palette_lookup R151, R152: PALLOOK's whole effect, for every palette: entry 0 is (0, 0, 0), the others are the open
parameter (log entry 2). -/
def Obligations.PallookReadsPalette : Prop :=
  ∀ (s : State) (c : Index), s.cidx = some c →
    exec .pallook s = .next { s with
      pix := some (if c = 0 then ⟨0, 0, 0⟩ else Config.palette c)
      ph := .wrpix }

/-- 30_encoding R88: the pixel as a 24-bit value {R, G, B} with R in bits 23:16. -/
def Obligations.PixelAsWord : Prop :=
  (∀ p : Pixel, pixelOfWord (pixelWord p) = p ∧ (pixelWord p).extractLsb' 16 8 = p.r ∧
    (pixelWord p).extractLsb' 8 8 = p.g ∧ (pixelWord p).extractLsb' 0 8 = p.b) ∧
  (∀ w : BitVec 24, pixelWord (pixelOfWord w) = w)

/-! ### RZ, the rasterizer -/

/-- 43_rasterizer R162, R163; 20_memory R57: WRPIX completes, stores R, G, B at A, A + 1, A + 2, and changes no other byte,
latch, port or error. -/
def Obligations.WrpixStoresPixel : Prop :=
  ∀ (s : State) (p : Pixel), s.pix = some p →
    let a := 3 * (560 * (2 * s.row.val + s.vrep.val) + (4 * (7 * s.grp.val + s.pat.val) + s.hrep.val))
    ∃ t, exec .wrpix s = .next t ∧
      t.raster.read a = some p.r ∧ t.raster.read (a + 1) = some p.g ∧ t.raster.read (a + 2) = some p.b ∧
      (∀ x, x ≠ a → x ≠ a + 1 → x ≠ a + 2 → t.raster.read x = s.raster.read x) ∧
      (∀ x, t.src.read x = s.src.read x) ∧
      t.base = s.base ∧ t.aux0 = s.aux0 ∧ t.aux1 = s.aux1 ∧ t.main0 = s.main0 ∧ t.main1 = s.main1 ∧
      t.pidx = s.pidx ∧ t.cidx = s.cidx ∧ t.pix = s.pix ∧ t.err = s.err ∧ t.srcLen = s.srcLen ∧
      t.resetPin = s.resetPin ∧ t.cmd = s.cmd

/-- 44_sequencer_and_commands R183, R184: what WRPIX does to the position, counter by counter as natural numbers (so no
counter wraps), FINISH at the last. -/
def Obligations.WrpixAdvances : Prop :=
  ∀ (s : State) (p : Pixel), s.pix = some p →
    ∃ t, exec .wrpix s = .next t ∧
      (if s.hrep.val < 3 then
        t.ph = .wrpix ∧ t.hrep.val = s.hrep.val + 1 ∧ t.vrep = s.vrep ∧ t.pat = s.pat ∧ t.grp = s.grp ∧ t.row = s.row
      else if s.vrep.val = 0 then
        t.ph = .wrpix ∧ t.hrep = 0 ∧ t.vrep.val = 1 ∧ t.pat = s.pat ∧ t.grp = s.grp ∧ t.row = s.row
      else t.hrep = 0 ∧ t.vrep = 0 ∧
        if s.pat.val < 6 then t.ph = .slice ∧ t.pat.val = s.pat.val + 1 ∧ t.grp = s.grp ∧ t.row = s.row
        else t.pat = 0 ∧
          if s.grp.val < 19 then t.ph = .fetch4 ∧ t.grp.val = s.grp.val + 1 ∧ t.row = s.row
          else t.grp = 0 ∧
            if s.row.val < 191 then t.ph = .amlook ∧ t.row.val = s.row.val + 1
            else t.ph = .done ∧ t.row = 0)

/-- 43_rasterizer R162, R167: the map from the five counters to the pixel number is a bijection onto 0 to 215039, with the
inverse R167 gives. -/
def Obligations.EveryPixelHasOnePosition : Prop :=
  (∀ p : Position, writeAddr p = 3 * (writeAddr p / 3) ∧ writeAddr p / 3 < 215040 ∧
    p.row.val = writeAddr p / 3 / 560 / 2 ∧ p.vrep.val = writeAddr p / 3 / 560 % 2 ∧
    p.grp.val = writeAddr p / 3 % 560 / 4 / 7 ∧ p.pat.val = writeAddr p / 3 % 560 / 4 % 7 ∧
    p.hrep.val = writeAddr p / 3 % 560 % 4) ∧
  (∀ n : Nat, n < 215040 → ∃ p : Position, writeAddr p = 3 * n)

/-! ### SEQ: commands, the length check, WAIT -/

/-- 44_sequencer_and_commands R177: an accepted DECODE. -/
def Obligations.DecodeAccepted : Prop :=
  ∀ s : State, s.status ≠ .busy →
    ∃ t, exec .decode s = .next t ∧
      t.err = .noError ∧ t.row = 0 ∧ t.grp = 0 ∧ t.pat = 0 ∧ t.vrep = 0 ∧ t.hrep = 0 ∧
      t.base = none ∧ t.aux0 = none ∧ t.aux1 = none ∧ t.main0 = none ∧ t.main1 = none ∧
      t.pidx = none ∧ t.cidx = none ∧ t.pix = none ∧ t.ph = .chklen ∧ t.status = .busy ∧
      (∀ a, t.raster.read a = s.raster.read a) ∧ (∀ a, t.src.read a = s.src.read a) ∧ t.srcLen = s.srcLen

/-- 44_sequencer_and_commands R178: DECODE while BUSY changes nothing and is not remembered: the command is gone from its
port. -/
def Obligations.DecodeIgnoredWhileBusy : Prop :=
  ∀ s : State, s.status = .busy → exec .decode s = .next { s with cmd := false }

/-- 70_reset_and_hazards R230, 10_state R37: RESET in any state; no byte of memory changes, and the host must take all of
RASTER as unspecified. That it does so after a RESET outside BUSY too is the model's reading of R37 (log entry 5). -/
def Obligations.ResetFromAnyState : Prop :=
  ∀ s : State, ∃ t, exec .reset s = .next t ∧
    t.ph = .idle ∧ t.statusPort = 0 ∧ t.errPort = 0 ∧ t.err = .noError ∧
    t.row = 0 ∧ t.grp = 0 ∧ t.pat = 0 ∧ t.vrep = 0 ∧ t.hrep = 0 ∧
    t.base = none ∧ t.aux0 = none ∧ t.aux1 = none ∧ t.main0 = none ∧ t.main1 = none ∧
    t.pidx = none ∧ t.cidx = none ∧ t.pix = none ∧
    (∀ a, t.raster.read a = s.raster.read a) ∧ (∀ a, t.src.read a = s.src.read a) ∧ t.srcLen = s.srcLen ∧
    (∀ a, a < 645120 → t.rasterView a = .unspecified)

/-- The model's choice (log entries 6 and 7): a step takes the host's event from its port, once. Driving a port writes
neither STATUS nor ERR (10_state R33). -/
def Obligations.HostEventsAreTakenOnce : Prop :=
  (∀ s : State, ∃ t, step s.hostReset = .next t ∧ t.resetPin = false ∧ (s.cmd = false → t.cmd = false)) ∧
  (∀ s : State, s.resetPin = false → ∃ t, step s.hostDecode = .next t ∧ t.resetPin = false ∧ t.cmd = false) ∧
  (∀ s : State, s.hostReset.statusPort = s.statusPort ∧ s.hostReset.errPort = s.errPort ∧
    s.hostDecode.statusPort = s.statusPort ∧ s.hostDecode.errPort = s.errPort)

/-- 44_sequencer_and_commands R181, 60_exceptions R204: CHKLEN's whole effect on both sides of 0x4000. -/
def Obligations.ChklenChecksLength : Prop :=
  ∀ s : State,
    (0x4000 ≤ s.srcLen → exec .chklen s = .next { s with ph := .amlook }) ∧
    (s.srcLen < 0x4000 → exec .chklen s = .next { s with err := .invalidInputLength, ph := .fail })

/-- 44_sequencer_and_commands R180: WAIT changes nothing, and only a DECODE or a RESET leaves the waiting phases. That WAIT is a
step, one that answers the same state, is the model's choice of the two forms R180 offers (log entry 15). -/
def Obligations.WaitChangesNothing : Prop :=
  ∀ s : State,
    exec .waitIdle s = .next s ∧ exec .waitDone s = .next s ∧ exec .waitFail s = .next s ∧
    (s.ph = .idle ∨ s.ph = .done ∨ s.ph = .fail → s.portsIdle → step s = .next s)

/-- 44_sequencer_and_commands R182: the chain inside one colour index, and that it changes no counter. -/
def Obligations.ChainKeepsCounters : Prop :=
  ∀ (s t : State) (i : Instr), exec i s = .next t →
    (i = .amlook → t.ph = .fetch4) ∧
    (i = .fetch4 → t.ph = .slice ∨ (t.ph = .fail ∧ t.err = .outOfRangeAccess)) ∧
    (i ∈ [Instr.slice0, .slice1, .slice2, .slice3, .slice4, .slice5, .slice6] → t.ph = .rev4) ∧
    (i = .rev4 → t.ph = .pallook) ∧ (i = .pallook → t.ph = .wrpix) ∧ (i = .wrpix → t.pos = advance s.pos) ∧
    (i ∈ [Instr.amlook, .fetch4, .slice0, .slice1, .slice2, .slice3, .slice4, .slice5, .slice6, .rev4, .pallook] →
      t.row = s.row ∧ t.grp = s.grp ∧ t.pat = s.pat ∧ t.vrep = s.vrep ∧ t.hrep = s.hrep)

/-! ### Frames and who reads what -/

/-- 10_state R23, the columns "written by" (with the un-defining of 44_sequencer_and_commands R177 and 70_reset_and_hazards
R230): every latch is unchanged but for its writers; and with ERR and the ports the same. -/
def Obligations.OnlyItsWritersChangeARegister : Prop :=
  ∀ (i : Instr) (s t : State), exec i s = .next t → i ≠ .decode → i ≠ .reset →
    (i ≠ .amlook → t.base = s.base) ∧
    (i ≠ .fetch4 → t.aux0 = s.aux0 ∧ t.aux1 = s.aux1 ∧ t.main0 = s.main0 ∧ t.main1 = s.main1) ∧
    (i ∉ [Instr.slice0, .slice1, .slice2, .slice3, .slice4, .slice5, .slice6] → t.pidx = s.pidx) ∧
    (i ≠ .rev4 → t.cidx = s.cidx) ∧ (i ≠ .pallook → t.pix = s.pix) ∧
    (i ≠ .chklen → i ≠ .fetch4 → t.err = s.err) ∧
    (i ≠ .wrpix → t.row = s.row ∧ t.grp = s.grp ∧ t.pat = s.pat ∧ t.vrep = s.vrep ∧ t.hrep = s.hrep) ∧
    t.resetPin = s.resetPin ∧ t.cmd = s.cmd ∧ t.srcLen = s.srcLen

/-- 20_memory R50, R52, R60: no operation writes SRC, and WRPIX alone writes RASTER. -/
def Obligations.OnlyWrpixWritesMemory : Prop :=
  ∀ (i : Instr) (s t : State), exec i s = .next t →
    (∀ a, t.src.read a = s.src.read a) ∧ (i ≠ .wrpix → ∀ a, t.raster.read a = s.raster.read a)

/-- 20_memory R50, R65; 44_sequencer_and_commands R181: SRC_LEN is read by CHKLEN only, SRC by FETCH4 only, RASTER by no
operation. -/
def Obligations.WhoReadsTheHostsData : Prop :=
  ∀ (i : Instr) (s t : State), exec i s = .next t →
    (∀ n, i ≠ .chklen → exec i { s with srcLen := n } = .next { t with srcLen := n }) ∧
    (∀ m, i ≠ .fetch4 → exec i { s with src := m } = .next { t with src := m }) ∧
    (∀ m, ∃ u, exec i { s with raster := m } = .next u ∧ { u with raster := t.raster } = t)

/-- 60_exceptions R200, R201, R202: each error is raised by its one operation, on its one condition. -/
def Obligations.ErrorsHaveOneRaiser : Prop :=
  ∀ (i : Instr) (s t : State), exec i s = .next t → s.ph ≠ .fail → t.ph = .fail →
    (i = .chklen ∧ s.srcLen < 0x4000 ∧ t.err = .invalidInputLength) ∨
    (i = .fetch4 ∧ t.err = .outOfRangeAccess ∧ ∃ b, s.base = some b ∧ 0x2000 ≤ b.toNat + 2 * s.grp.val + 1)

/-- 10_state R37, R39: an operation that reads a latch without a value faults by that latch's name; one that reads two
latches, by the name of one of them that holds none (log entry 1). -/
def Obligations.ReadingNoValueFaults : Prop :=
  ∀ s : State,
    (s.base = none → exec .fetch4 s = .fault (.latchHoldsNoValue .base)) ∧
    (s.aux0 = none → exec .slice0 s = .fault (.latchHoldsNoValue .aux0)) ∧
    (s.main0 = none → exec .slice2 s = .fault (.latchHoldsNoValue .main0)) ∧
    (s.aux1 = none → exec .slice4 s = .fault (.latchHoldsNoValue .aux1)) ∧
    (s.main1 = none → exec .slice6 s = .fault (.latchHoldsNoValue .main1)) ∧
    (s.main0 = none ∨ s.aux0 = none → ∃ l, exec .slice1 s = .fault (.latchHoldsNoValue l) ∧
      ((l = .main0 ∧ s.main0 = none) ∨ (l = .aux0 ∧ s.aux0 = none))) ∧
    (s.aux1 = none ∨ s.main0 = none → ∃ l, exec .slice3 s = .fault (.latchHoldsNoValue l) ∧
      ((l = .aux1 ∧ s.aux1 = none) ∨ (l = .main0 ∧ s.main0 = none))) ∧
    (s.main1 = none ∨ s.aux1 = none → ∃ l, exec .slice5 s = .fault (.latchHoldsNoValue l) ∧
      ((l = .main1 ∧ s.main1 = none) ∨ (l = .aux1 ∧ s.aux1 = none))) ∧
    (s.pidx = none → exec .rev4 s = .fault (.latchHoldsNoValue .pidx)) ∧
    (s.cidx = none → exec .pallook s = .fault (.latchHoldsNoValue .cidx)) ∧
    (s.pix = none → exec .wrpix s = .fault (.latchHoldsNoValue .pix))

/-! ### Ports -/

/-- 30_encoding R94, 10_state R32: the codes of the STATUS and ERR ports. -/
def Obligations.StatusAndErrCodes : Prop :=
  ∀ s : State,
    ((s.statusPort = 0 ↔ s.ph = .idle) ∧ (s.statusPort = 2 ↔ s.ph = .done) ∧ (s.statusPort = 3 ↔ s.ph = .fail) ∧
      (s.statusPort = 1 ↔
        s.ph ∈ [Phase.chklen, .amlook, .fetch4, .slice, .rev4, .pallook, .wrpix])) ∧
    ((s.errPort = 0 ↔ s.err = .noError) ∧ (s.errPort = 1 ↔ s.err = .invalidInputLength) ∧
      (s.errPort = 2 ↔ s.err = .outOfRangeAccess) ∧ s.errPort ≠ 3)

/-- 10_state R34: a port of 15 bits or more carries every value the check can tell apart, if the host saturates. -/
def Obligations.SaturatedLengthChecksAlike : Prop :=
  ∀ lenw len : Nat, 15 ≤ lenw → (saturateLen lenw len < 0x4000 ↔ len < 0x4000)

/-- 70_reset_and_hazards R234, R235, R236; 20_memory R50, R51, R55; 10_state R33: the host's placing of a buffer, which it cannot
do while BUSY or once it has driven `CMD = 1` (log entries 11 and 22); it keeps the invariants and touches nothing but SRC
and SRC_LEN. -/
def Obligations.HostPlacesBuffer : Prop :=
  ∀ (s : State) (buffer : List Byte),
    (s.status = .busy ∨ s.cmd = true → s.hostPlace buffer = none) ∧
    (s.status ≠ .busy → s.cmd = false → ∃ t, s.hostPlace buffer = some t ∧ t.srcLen = buffer.length ∧
      (∀ (a : Nat) (b : Byte), a < 0x4000 → buffer[a]? = some b → t.srcFun a = b) ∧
      (∀ a, 0x4000 ≤ a → t.src.read a = none) ∧
      { t with src := s.src, srcLen := s.srcLen } = s ∧
      (s.MemoryInv → t.MemoryInv) ∧ (s.SequencerInv → t.SequencerInv))

/-- 44_sequencer_and_commands R194, 20_memory R52: the host's write of one byte of RASTER, which it cannot do while BUSY, once it
has driven `CMD = 1` (log entries 11 and 22), or outside RASTER. The host then reads that byte back, every other byte as it
read before, and nothing else of the machine has changed but the model's own record of it (log entry 5). -/
def Obligations.HostWritesRaster : Prop :=
  ∀ (s : State) (a : Nat) (b : Byte),
    (s.status = .busy ∨ s.cmd = true ∨ 645120 ≤ a → s.hostWriteRaster a b = none) ∧
    (s.status ≠ .busy → s.cmd = false → a < 645120 → ∃ t, s.hostWriteRaster a b = some t ∧
      t.rasterView a = .byte b ∧ (∀ x, x ≠ a → t.rasterView x = s.rasterView x) ∧
      t.raster.read a = some b ∧ (∀ x, x ≠ a → t.raster.read x = s.raster.read x) ∧
      { t with raster := s.raster, rasterTrust := s.rasterTrust } = s ∧
      (s.MemoryInv → t.MemoryInv) ∧ (s.SequencerInv → t.SequencerInv))

/-! ### Reset and the invariants -/

/-- 10_state R37: the table of reset values, and the memories' unspecified content. -/
def Obligations.ResetValues : Prop :=
  State.reset.ph = .idle ∧ State.reset.err = .noError ∧ State.reset.row = 0 ∧ State.reset.grp = 0 ∧
  State.reset.pat = 0 ∧ State.reset.vrep = 0 ∧ State.reset.hrep = 0 ∧
  State.reset.base = none ∧ State.reset.aux0 = none ∧ State.reset.aux1 = none ∧ State.reset.main0 = none ∧
  State.reset.main1 = none ∧ State.reset.pidx = none ∧ State.reset.cidx = none ∧ State.reset.pix = none ∧
  State.reset.statusPort = 0 ∧ (∀ a, a < 645120 → State.reset.rasterView a = .unspecified)

/-- The two invariants hold after reset. -/
def Obligations.ResetMeetsInvariants : Prop := State.reset.MemoryInv ∧ State.reset.SequencerInv

/-- 20_memory R50, R52: every step keeps both memories in canonical form and in their address spaces, and with
them the model's record of RASTER (log entry 5). -/
def Obligations.StepKeepsMemoryInv : Prop := ∀ s t : State, s.MemoryInv → step s = .next t → t.MemoryInv

/-- 10_state R32, R38, R39: every step keeps the sequencer invariant. -/
def Obligations.StepKeepsSequencerInv : Prop := ∀ s t : State, s.SequencerInv → step s = .next t → t.SequencerInv

/-- 44_sequencer_and_commands R179, R186: in a state of the invariant every step has a next state: no latch is read before
it is written, and no word selects no operation. -/
def Obligations.InvariantStatesStepOn : Prop := ∀ s : State, s.SequencerInv → ∃ t, step s = .next t

/-- 60_exceptions R218: OutOfRangeAccess cannot happen. -/
def Obligations.OutOfRangeUnreachable : Prop :=
  (∀ s : State, s.SequencerInv → s.ph = .fetch4 →
    ∃ b, s.base = some b ∧ b.toNat ≤ 0x1FD0 ∧ b.toNat + 2 * s.grp.val + 1 ≤ 0x1FF7 ∧
      0x2000 + b.toNat + 2 * s.grp.val + 1 ≤ 0x3FF7) ∧
  (∀ s t : State, s.SequencerInv → s.err ≠ .outOfRangeAccess → step s = .next t → t.err ≠ .outOfRangeAccess)

/-- 60_exceptions R208: FAIL is left only by an accepted DECODE, which clears ERR and starts from the beginning, or by RESET.
That RESET goes before a DECODE on the ports with it (log entry 7), that an event takes a step of its own (log entry 6), and
that the machine waits in steps that change nothing (log entry 15) are the model's choices. -/
def Obligations.FailIsLeftByDecodeOrReset : Prop :=
  ∀ s : State, s.ph = .fail → ∃ t, step s = .next t ∧
    ((s.resetPin = false ∧ s.cmd = false ∧ t = s) ∨
      (s.resetPin = false ∧ s.cmd = true ∧ t.ph = .chklen ∧ t.err = .noError ∧
        t.row = 0 ∧ t.grp = 0 ∧ t.pat = 0 ∧ t.vrep = 0 ∧ t.hrep = 0) ∨
      (s.resetPin = true ∧ t.ph = .idle ∧ t.err = .noError))

/-- 70_reset_and_hazards R231, 44_sequencer_and_commands R175: BUSY ends by RESET, by FINISH at the last position, or by a
raised error, and in no other way. -/
def Obligations.WhatEndsBusy : Prop :=
  ∀ s t : State, s.status = .busy → step s = .next t → t.status ≠ .busy →
    (s.resetPin = true ∧ t.ph = .idle) ∨
    (s.portsIdle ∧ s.ph = .wrpix ∧ t.ph = .done ∧ s.row.val = 191 ∧ s.grp.val = 19 ∧ s.pat.val = 6 ∧ s.vrep.val = 1 ∧
      s.hrep.val = 3) ∨
    (s.portsIdle ∧ s.ph = .chklen ∧ t.ph = .fail ∧ s.srcLen < 0x4000) ∨
    (s.portsIdle ∧ s.ph = .fetch4 ∧ t.ph = .fail ∧ t.err = .outOfRangeAccess)

/-! ### The transaction -/

/-- 30_encoding R98: the pseudo-operation EMIT as a run: eleven steps, the operations of its expansion, the eight copies of
one pixel, no other byte. -/
def Obligations.EmitWritesEightCopies : Prop :=
  ∀ s : State, s.SequencerInv → s.portsIdle → s.ph = .slice →
    traceOf 11 s = emitOps s.pat ∧
    ∃ t, stepN 11 s = .next t ∧
      (∀ v h ch : Nat, v < 2 → h < 4 → ch < 3 →
        t.raster.read (3 * (560 * (2 * s.row.val + v) + (4 * (7 * s.grp.val + s.pat.val) + h)) + ch) =
          some (channel (palRom (rev4 s.patternHere)) ch)) ∧
      (∀ x : Nat, (∀ v h ch : Nat, v < 2 → h < 4 → ch < 3 →
          x ≠ 3 * (560 * (2 * s.row.val + v) + (4 * (7 * s.grp.val + s.pat.val) + h)) + ch) →
        t.raster.read x = s.raster.read x)

/-- 30_encoding R98, 44_sequencer_and_commands R186: the operations of a successful transaction, in the canonical order. -/
def Obligations.TransactionTrace : Prop :=
  ∀ s : State, s.StartsTransaction → 0x4000 ≤ s.srcLen → traceOf 299714 s = Instr.decode :: transactionOps

/-- 70_reset_and_hazards R242, 30_encoding R98: how many of each operation a successful transaction runs, and the lengths of
the pseudo-operations. -/
def Obligations.OperationCounts : Prop :=
  (∀ i : Fin 7, (emitOps i).length = 11) ∧ groupOps.length = 78 ∧ lineOps.length = 1561 ∧
  transactionOps.length = 299713 ∧
  transactionOps.count .chklen = 1 ∧ transactionOps.count .amlook = 192 ∧ transactionOps.count .fetch4 = 3840 ∧
  (∀ i : Fin 7, transactionOps.count (sliceOp i) = 3840) ∧ transactionOps.count .rev4 = 26880 ∧
  transactionOps.count .pallook = 26880 ∧ transactionOps.count .wrpix = 215040

/-- 44_sequencer_and_commands R191: the two levels agree. From a state whose next step accepts DECODE, with no further host
event: where `decode` fails, the machine reaches FAIL with that error, RASTER untouched, and stays; where it succeeds, the
machine is BUSY for 299713 steps, reaches DONE with RASTER equal to OUT, and stays. -/
def Obligations.SmallStepMeetsBigStep : Prop :=
  ∀ s : State, s.StartsTransaction →
    match bigDecode palRom s.srcFun s.srcLen with
    | .failure e =>
      ∃ t, stepN 2 s = .next t ∧ t.ph = .fail ∧ t.err = e ∧ e = .invalidInputLength ∧ t.raster = s.raster ∧
        ∀ n, stepN (2 + n) s = .next t
    | .success out =>
      out.length = 645120 ∧
      (∀ n, 1 ≤ n → n ≤ 299713 → ∃ u, stepN n s = .next u ∧ u.status = .busy) ∧
      ∃ t, stepN 299714 s = .next t ∧ t.ph = .done ∧ t.err = .noError ∧
        (∀ a, a < 645120 → t.raster.read a = out[a]?) ∧ ∀ n, stepN (299714 + n) s = .next t

/-- 43_rasterizer R164: the raster after a successful transaction. -/
def Obligations.RasterEquation : Prop :=
  ∀ s : State, s.StartsTransaction → 0x4000 ≤ s.srcLen →
    ∃ t, stepN 299714 s = .next t ∧ t.status = .done ∧
      ∀ y x ch : Nat, y < 384 → x < 560 → ch < 3 →
        t.raster.read (3 * (560 * y + x) + ch) = some (channel (palRom (cidxAt s.srcFun (y / 2) (x / 4))) ch)

/-- 43_rasterizer R165, 42_palette_lookup R154: horizontal and vertical replication, and the closed colour set, in the
raster a successful transaction leaves. -/
def Obligations.ReplicationAndClosedColours : Prop :=
  ∀ s : State, s.StartsTransaction → 0x4000 ≤ s.srcLen →
    ∃ t, stepN 299714 s = .next t ∧ t.status = .done ∧
      (∀ y k h ch : Nat, y < 384 → k < 140 → h < 4 → ch < 3 →
        t.raster.read (3 * (560 * y + (4 * k + h)) + ch) = t.raster.read (3 * (560 * y + 4 * k) + ch)) ∧
      (∀ j x ch : Nat, j < 192 → x < 560 → ch < 3 →
        t.raster.read (3 * (560 * (2 * j) + x) + ch) = t.raster.read (3 * (560 * (2 * j + 1) + x) + ch)) ∧
      (∀ y x : Nat, y < 384 → x < 560 → ∃ c : Index, ∀ ch, ch < 3 →
        t.raster.read (3 * (560 * y + x) + ch) = some (channel (palRom c) ch))

/-- 20_memory R66, 70_reset_and_hazards R237: the host sees nothing of RASTER while BUSY, and all of it at DONE. -/
def Obligations.HostSeesRasterAtDone : Prop :=
  (∀ s : State, s.status = .busy → ∀ a, a < 645120 → s.rasterView a = .unspecified) ∧
  (∀ s : State, s.StartsTransaction → 0x4000 ≤ s.srcLen →
    ∃ t, stepN 299714 s = .next t ∧ t.status = .done ∧
      ∀ a, a < 645120 → t.rasterView a = .byte (outByte palRom s.srcFun a))

/-- 44_sequencer_and_commands R188, R193: every transaction ends, from wherever in it the machine stands. -/
def Obligations.EveryTransactionEnds : Prop :=
  ∀ s : State, s.SequencerInv → s.portsIdle → s.status = .busy →
    ∃ n t, n ≤ 299713 ∧ stepN n s = .next t ∧ (t.status = .done ∨ t.status = .fail)

/-- 44_sequencer_and_commands R192, 10_state R41: purity. Two machines with equal sources, whatever their latches, counters,
errors and rasters hold, end with equal rasters. -/
def Obligations.DecodingIsPure : Prop :=
  ∀ s₁ s₂ : State, s₁.StartsTransaction → s₂.StartsTransaction → 0x4000 ≤ s₁.srcLen → 0x4000 ≤ s₂.srcLen →
    (∀ a, a < 0x4000 → s₁.srcFun a = s₂.srcFun a) →
    ∃ t₁ t₂, stepN 299714 s₁ = .next t₁ ∧ stepN 299714 s₂ = .next t₂ ∧ t₁.ph = .done ∧ t₂.ph = .done ∧
      t₁.err = t₂.err ∧ ∀ a, a < 645120 → t₁.raster.read a = t₂.raster.read a

/-- 41_nibble_extractor R140, 20_memory R63: two sources that agree in bits 6 to 0 of the bytes below 0x4000 whose low
seven address bits are below 120 decode alike, for every palette. -/
def Obligations.IgnoredBitsDoNotMatter : Prop :=
  ∀ (pal : Index → Pixel) (src₁ src₂ : Nat → Byte) (len : Nat),
    (∀ a, a < 0x4000 → a % 128 < 120 → (src₁ a).extractLsb' 0 7 = (src₂ a).extractLsb' 0 7) →
    bigDecode pal src₁ len = bigDecode pal src₂ len

/-- 44_sequencer_and_commands R190: `decode` byte by byte, with the pixel and channel written out. -/
def Obligations.BigDecodeBytes : Prop :=
  ∀ (pal : Index → Pixel) (src : Nat → Byte) (len : Nat),
    (len < 0x4000 → bigDecode pal src len = .failure .invalidInputLength) ∧
    (0x4000 ≤ len → ∃ out, bigDecode pal src len = .success out ∧ out.length = 645120 ∧
      ∀ y x : Nat, y < 384 → x < 560 →
        let b := baseOffset (y / 2) + 2 * (x / 4 / 7)
        let c := rev4 (sliceOf ⟨x / 4 % 7, Nat.mod_lt _ (Nat.zero_lt_succ 6)⟩ (src b) (src (b + 1)) (src (0x2000 + b))
          (src (0x2000 + b + 1)))
        0x2000 + b + 1 < 0x4000 ∧ out[3 * (560 * y + x)]? = some (pal c).r ∧ out[3 * (560 * y + x) + 1]? = some (pal c).g ∧
          out[3 * (560 * y + x) + 2]? = some (pal c).b)

/-- 20_memory R68, 44_sequencer_and_commands R187: order independence. Whatever list of sites an implementation writes, in
whatever order and however often, if it leaves none out the raster is the one `decode` gives. -/
def Obligations.OrderDoesNotMatter : Prop :=
  ∀ (pal : Index → Pixel) (src : Nat → Byte) (m : Memory) (l : List Site), (∀ q : Site, q ∈ l) →
    ∀ a, a < 645120 → (paint pal src m l).read a = some (outByte pal src a)

/-- 43_rasterizer R163, R164: in a state of the invariant WRPIX writes the pixel of its own site, as `paint` does. -/
def Obligations.WrpixPaintsItsSite : Prop :=
  ∀ s : State, s.SequencerInv → s.ph = .wrpix →
    ∃ t, exec .wrpix s = .next t ∧
      t.raster = paint palRom s.srcFun s.raster [⟨s.row, s.grp, s.pat, s.vrep, s.hrep⟩]
end

