-- ==== Sys2Proof/Laws/State.lean ====
section
/-! SUPPORT. One lemma per field per update of `State`, true by `rfl`: later proofs cite the simp set and unfold no record
update. -/

namespace Sys2Proof.Machine

variable (s : State)

/-! ### setPh -/

@[simp] theorem State.setPh_ph (p : Phase) : (s.setPh p).ph = p := rfl
@[simp] theorem State.setPh_row (p : Phase) : (s.setPh p).row = s.row := rfl
@[simp] theorem State.setPh_grp (p : Phase) : (s.setPh p).grp = s.grp := rfl
@[simp] theorem State.setPh_pat (p : Phase) : (s.setPh p).pat = s.pat := rfl
@[simp] theorem State.setPh_vrep (p : Phase) : (s.setPh p).vrep = s.vrep := rfl
@[simp] theorem State.setPh_hrep (p : Phase) : (s.setPh p).hrep = s.hrep := rfl
@[simp] theorem State.setPh_base (p : Phase) : (s.setPh p).base = s.base := rfl
@[simp] theorem State.setPh_aux0 (p : Phase) : (s.setPh p).aux0 = s.aux0 := rfl
@[simp] theorem State.setPh_aux1 (p : Phase) : (s.setPh p).aux1 = s.aux1 := rfl
@[simp] theorem State.setPh_main0 (p : Phase) : (s.setPh p).main0 = s.main0 := rfl
@[simp] theorem State.setPh_main1 (p : Phase) : (s.setPh p).main1 = s.main1 := rfl
@[simp] theorem State.setPh_pidx (p : Phase) : (s.setPh p).pidx = s.pidx := rfl
@[simp] theorem State.setPh_cidx (p : Phase) : (s.setPh p).cidx = s.cidx := rfl
@[simp] theorem State.setPh_pix (p : Phase) : (s.setPh p).pix = s.pix := rfl
@[simp] theorem State.setPh_err (p : Phase) : (s.setPh p).err = s.err := rfl
@[simp] theorem State.setPh_resetPin (p : Phase) : (s.setPh p).resetPin = s.resetPin := rfl
@[simp] theorem State.setPh_cmd (p : Phase) : (s.setPh p).cmd = s.cmd := rfl
@[simp] theorem State.setPh_srcLen (p : Phase) : (s.setPh p).srcLen = s.srcLen := rfl
@[simp] theorem State.setPh_src (p : Phase) : (s.setPh p).src = s.src := rfl
@[simp] theorem State.setPh_raster (p : Phase) : (s.setPh p).raster = s.raster := rfl
@[simp] theorem State.setPh_rasterTrust (p : Phase) : (s.setPh p).rasterTrust = s.rasterTrust := rfl

/-! ### setErr -/

@[simp] theorem State.setErr_ph (e : ErrorCode) : (s.setErr e).ph = s.ph := rfl
@[simp] theorem State.setErr_row (e : ErrorCode) : (s.setErr e).row = s.row := rfl
@[simp] theorem State.setErr_grp (e : ErrorCode) : (s.setErr e).grp = s.grp := rfl
@[simp] theorem State.setErr_pat (e : ErrorCode) : (s.setErr e).pat = s.pat := rfl
@[simp] theorem State.setErr_vrep (e : ErrorCode) : (s.setErr e).vrep = s.vrep := rfl
@[simp] theorem State.setErr_hrep (e : ErrorCode) : (s.setErr e).hrep = s.hrep := rfl
@[simp] theorem State.setErr_base (e : ErrorCode) : (s.setErr e).base = s.base := rfl
@[simp] theorem State.setErr_aux0 (e : ErrorCode) : (s.setErr e).aux0 = s.aux0 := rfl
@[simp] theorem State.setErr_aux1 (e : ErrorCode) : (s.setErr e).aux1 = s.aux1 := rfl
@[simp] theorem State.setErr_main0 (e : ErrorCode) : (s.setErr e).main0 = s.main0 := rfl
@[simp] theorem State.setErr_main1 (e : ErrorCode) : (s.setErr e).main1 = s.main1 := rfl
@[simp] theorem State.setErr_pidx (e : ErrorCode) : (s.setErr e).pidx = s.pidx := rfl
@[simp] theorem State.setErr_cidx (e : ErrorCode) : (s.setErr e).cidx = s.cidx := rfl
@[simp] theorem State.setErr_pix (e : ErrorCode) : (s.setErr e).pix = s.pix := rfl
@[simp] theorem State.setErr_err (e : ErrorCode) : (s.setErr e).err = e := rfl
@[simp] theorem State.setErr_resetPin (e : ErrorCode) : (s.setErr e).resetPin = s.resetPin := rfl
@[simp] theorem State.setErr_cmd (e : ErrorCode) : (s.setErr e).cmd = s.cmd := rfl
@[simp] theorem State.setErr_srcLen (e : ErrorCode) : (s.setErr e).srcLen = s.srcLen := rfl
@[simp] theorem State.setErr_src (e : ErrorCode) : (s.setErr e).src = s.src := rfl
@[simp] theorem State.setErr_raster (e : ErrorCode) : (s.setErr e).raster = s.raster := rfl
@[simp] theorem State.setErr_rasterTrust (e : ErrorCode) : (s.setErr e).rasterTrust = s.rasterTrust := rfl

/-! ### setBase -/

@[simp] theorem State.setBase_ph (b : BitVec 13) : (s.setBase b).ph = s.ph := rfl
@[simp] theorem State.setBase_row (b : BitVec 13) : (s.setBase b).row = s.row := rfl
@[simp] theorem State.setBase_grp (b : BitVec 13) : (s.setBase b).grp = s.grp := rfl
@[simp] theorem State.setBase_pat (b : BitVec 13) : (s.setBase b).pat = s.pat := rfl
@[simp] theorem State.setBase_vrep (b : BitVec 13) : (s.setBase b).vrep = s.vrep := rfl
@[simp] theorem State.setBase_hrep (b : BitVec 13) : (s.setBase b).hrep = s.hrep := rfl
@[simp] theorem State.setBase_base (b : BitVec 13) : (s.setBase b).base = some b := rfl
@[simp] theorem State.setBase_aux0 (b : BitVec 13) : (s.setBase b).aux0 = s.aux0 := rfl
@[simp] theorem State.setBase_aux1 (b : BitVec 13) : (s.setBase b).aux1 = s.aux1 := rfl
@[simp] theorem State.setBase_main0 (b : BitVec 13) : (s.setBase b).main0 = s.main0 := rfl
@[simp] theorem State.setBase_main1 (b : BitVec 13) : (s.setBase b).main1 = s.main1 := rfl
@[simp] theorem State.setBase_pidx (b : BitVec 13) : (s.setBase b).pidx = s.pidx := rfl
@[simp] theorem State.setBase_cidx (b : BitVec 13) : (s.setBase b).cidx = s.cidx := rfl
@[simp] theorem State.setBase_pix (b : BitVec 13) : (s.setBase b).pix = s.pix := rfl
@[simp] theorem State.setBase_err (b : BitVec 13) : (s.setBase b).err = s.err := rfl
@[simp] theorem State.setBase_resetPin (b : BitVec 13) : (s.setBase b).resetPin = s.resetPin := rfl
@[simp] theorem State.setBase_cmd (b : BitVec 13) : (s.setBase b).cmd = s.cmd := rfl
@[simp] theorem State.setBase_srcLen (b : BitVec 13) : (s.setBase b).srcLen = s.srcLen := rfl
@[simp] theorem State.setBase_src (b : BitVec 13) : (s.setBase b).src = s.src := rfl
@[simp] theorem State.setBase_raster (b : BitVec 13) : (s.setBase b).raster = s.raster := rfl
@[simp] theorem State.setBase_rasterTrust (b : BitVec 13) : (s.setBase b).rasterTrust = s.rasterTrust := rfl

/-! ### setGroup -/

@[simp] theorem State.setGroup_ph (a0 a1 m0 m1 : Byte) : (s.setGroup a0 a1 m0 m1).ph = s.ph := rfl
@[simp] theorem State.setGroup_row (a0 a1 m0 m1 : Byte) : (s.setGroup a0 a1 m0 m1).row = s.row := rfl
@[simp] theorem State.setGroup_grp (a0 a1 m0 m1 : Byte) : (s.setGroup a0 a1 m0 m1).grp = s.grp := rfl
@[simp] theorem State.setGroup_pat (a0 a1 m0 m1 : Byte) : (s.setGroup a0 a1 m0 m1).pat = s.pat := rfl
@[simp] theorem State.setGroup_vrep (a0 a1 m0 m1 : Byte) : (s.setGroup a0 a1 m0 m1).vrep = s.vrep := rfl
@[simp] theorem State.setGroup_hrep (a0 a1 m0 m1 : Byte) : (s.setGroup a0 a1 m0 m1).hrep = s.hrep := rfl
@[simp] theorem State.setGroup_base (a0 a1 m0 m1 : Byte) : (s.setGroup a0 a1 m0 m1).base = s.base := rfl
@[simp] theorem State.setGroup_aux0 (a0 a1 m0 m1 : Byte) : (s.setGroup a0 a1 m0 m1).aux0 = some a0 := rfl
@[simp] theorem State.setGroup_aux1 (a0 a1 m0 m1 : Byte) : (s.setGroup a0 a1 m0 m1).aux1 = some a1 := rfl
@[simp] theorem State.setGroup_main0 (a0 a1 m0 m1 : Byte) : (s.setGroup a0 a1 m0 m1).main0 = some m0 := rfl
@[simp] theorem State.setGroup_main1 (a0 a1 m0 m1 : Byte) : (s.setGroup a0 a1 m0 m1).main1 = some m1 := rfl
@[simp] theorem State.setGroup_pidx (a0 a1 m0 m1 : Byte) : (s.setGroup a0 a1 m0 m1).pidx = s.pidx := rfl
@[simp] theorem State.setGroup_cidx (a0 a1 m0 m1 : Byte) : (s.setGroup a0 a1 m0 m1).cidx = s.cidx := rfl
@[simp] theorem State.setGroup_pix (a0 a1 m0 m1 : Byte) : (s.setGroup a0 a1 m0 m1).pix = s.pix := rfl
@[simp] theorem State.setGroup_err (a0 a1 m0 m1 : Byte) : (s.setGroup a0 a1 m0 m1).err = s.err := rfl
@[simp] theorem State.setGroup_resetPin (a0 a1 m0 m1 : Byte) : (s.setGroup a0 a1 m0 m1).resetPin = s.resetPin := rfl
@[simp] theorem State.setGroup_cmd (a0 a1 m0 m1 : Byte) : (s.setGroup a0 a1 m0 m1).cmd = s.cmd := rfl
@[simp] theorem State.setGroup_srcLen (a0 a1 m0 m1 : Byte) : (s.setGroup a0 a1 m0 m1).srcLen = s.srcLen := rfl
@[simp] theorem State.setGroup_src (a0 a1 m0 m1 : Byte) : (s.setGroup a0 a1 m0 m1).src = s.src := rfl
@[simp] theorem State.setGroup_raster (a0 a1 m0 m1 : Byte) : (s.setGroup a0 a1 m0 m1).raster = s.raster := rfl
@[simp] theorem State.setGroup_rasterTrust (a0 a1 m0 m1 : Byte) : (s.setGroup a0 a1 m0 m1).rasterTrust = s.rasterTrust := rfl

/-! ### setPidx -/

@[simp] theorem State.setPidx_ph (p : Index) : (s.setPidx p).ph = s.ph := rfl
@[simp] theorem State.setPidx_row (p : Index) : (s.setPidx p).row = s.row := rfl
@[simp] theorem State.setPidx_grp (p : Index) : (s.setPidx p).grp = s.grp := rfl
@[simp] theorem State.setPidx_pat (p : Index) : (s.setPidx p).pat = s.pat := rfl
@[simp] theorem State.setPidx_vrep (p : Index) : (s.setPidx p).vrep = s.vrep := rfl
@[simp] theorem State.setPidx_hrep (p : Index) : (s.setPidx p).hrep = s.hrep := rfl
@[simp] theorem State.setPidx_base (p : Index) : (s.setPidx p).base = s.base := rfl
@[simp] theorem State.setPidx_aux0 (p : Index) : (s.setPidx p).aux0 = s.aux0 := rfl
@[simp] theorem State.setPidx_aux1 (p : Index) : (s.setPidx p).aux1 = s.aux1 := rfl
@[simp] theorem State.setPidx_main0 (p : Index) : (s.setPidx p).main0 = s.main0 := rfl
@[simp] theorem State.setPidx_main1 (p : Index) : (s.setPidx p).main1 = s.main1 := rfl
@[simp] theorem State.setPidx_pidx (p : Index) : (s.setPidx p).pidx = some p := rfl
@[simp] theorem State.setPidx_cidx (p : Index) : (s.setPidx p).cidx = s.cidx := rfl
@[simp] theorem State.setPidx_pix (p : Index) : (s.setPidx p).pix = s.pix := rfl
@[simp] theorem State.setPidx_err (p : Index) : (s.setPidx p).err = s.err := rfl
@[simp] theorem State.setPidx_resetPin (p : Index) : (s.setPidx p).resetPin = s.resetPin := rfl
@[simp] theorem State.setPidx_cmd (p : Index) : (s.setPidx p).cmd = s.cmd := rfl
@[simp] theorem State.setPidx_srcLen (p : Index) : (s.setPidx p).srcLen = s.srcLen := rfl
@[simp] theorem State.setPidx_src (p : Index) : (s.setPidx p).src = s.src := rfl
@[simp] theorem State.setPidx_raster (p : Index) : (s.setPidx p).raster = s.raster := rfl
@[simp] theorem State.setPidx_rasterTrust (p : Index) : (s.setPidx p).rasterTrust = s.rasterTrust := rfl

/-! ### setCidx -/

@[simp] theorem State.setCidx_ph (c : Index) : (s.setCidx c).ph = s.ph := rfl
@[simp] theorem State.setCidx_row (c : Index) : (s.setCidx c).row = s.row := rfl
@[simp] theorem State.setCidx_grp (c : Index) : (s.setCidx c).grp = s.grp := rfl
@[simp] theorem State.setCidx_pat (c : Index) : (s.setCidx c).pat = s.pat := rfl
@[simp] theorem State.setCidx_vrep (c : Index) : (s.setCidx c).vrep = s.vrep := rfl
@[simp] theorem State.setCidx_hrep (c : Index) : (s.setCidx c).hrep = s.hrep := rfl
@[simp] theorem State.setCidx_base (c : Index) : (s.setCidx c).base = s.base := rfl
@[simp] theorem State.setCidx_aux0 (c : Index) : (s.setCidx c).aux0 = s.aux0 := rfl
@[simp] theorem State.setCidx_aux1 (c : Index) : (s.setCidx c).aux1 = s.aux1 := rfl
@[simp] theorem State.setCidx_main0 (c : Index) : (s.setCidx c).main0 = s.main0 := rfl
@[simp] theorem State.setCidx_main1 (c : Index) : (s.setCidx c).main1 = s.main1 := rfl
@[simp] theorem State.setCidx_pidx (c : Index) : (s.setCidx c).pidx = s.pidx := rfl
@[simp] theorem State.setCidx_cidx (c : Index) : (s.setCidx c).cidx = some c := rfl
@[simp] theorem State.setCidx_pix (c : Index) : (s.setCidx c).pix = s.pix := rfl
@[simp] theorem State.setCidx_err (c : Index) : (s.setCidx c).err = s.err := rfl
@[simp] theorem State.setCidx_resetPin (c : Index) : (s.setCidx c).resetPin = s.resetPin := rfl
@[simp] theorem State.setCidx_cmd (c : Index) : (s.setCidx c).cmd = s.cmd := rfl
@[simp] theorem State.setCidx_srcLen (c : Index) : (s.setCidx c).srcLen = s.srcLen := rfl
@[simp] theorem State.setCidx_src (c : Index) : (s.setCidx c).src = s.src := rfl
@[simp] theorem State.setCidx_raster (c : Index) : (s.setCidx c).raster = s.raster := rfl
@[simp] theorem State.setCidx_rasterTrust (c : Index) : (s.setCidx c).rasterTrust = s.rasterTrust := rfl

/-! ### setPix -/

@[simp] theorem State.setPix_ph (p : Pixel) : (s.setPix p).ph = s.ph := rfl
@[simp] theorem State.setPix_row (p : Pixel) : (s.setPix p).row = s.row := rfl
@[simp] theorem State.setPix_grp (p : Pixel) : (s.setPix p).grp = s.grp := rfl
@[simp] theorem State.setPix_pat (p : Pixel) : (s.setPix p).pat = s.pat := rfl
@[simp] theorem State.setPix_vrep (p : Pixel) : (s.setPix p).vrep = s.vrep := rfl
@[simp] theorem State.setPix_hrep (p : Pixel) : (s.setPix p).hrep = s.hrep := rfl
@[simp] theorem State.setPix_base (p : Pixel) : (s.setPix p).base = s.base := rfl
@[simp] theorem State.setPix_aux0 (p : Pixel) : (s.setPix p).aux0 = s.aux0 := rfl
@[simp] theorem State.setPix_aux1 (p : Pixel) : (s.setPix p).aux1 = s.aux1 := rfl
@[simp] theorem State.setPix_main0 (p : Pixel) : (s.setPix p).main0 = s.main0 := rfl
@[simp] theorem State.setPix_main1 (p : Pixel) : (s.setPix p).main1 = s.main1 := rfl
@[simp] theorem State.setPix_pidx (p : Pixel) : (s.setPix p).pidx = s.pidx := rfl
@[simp] theorem State.setPix_cidx (p : Pixel) : (s.setPix p).cidx = s.cidx := rfl
@[simp] theorem State.setPix_pix (p : Pixel) : (s.setPix p).pix = some p := rfl
@[simp] theorem State.setPix_err (p : Pixel) : (s.setPix p).err = s.err := rfl
@[simp] theorem State.setPix_resetPin (p : Pixel) : (s.setPix p).resetPin = s.resetPin := rfl
@[simp] theorem State.setPix_cmd (p : Pixel) : (s.setPix p).cmd = s.cmd := rfl
@[simp] theorem State.setPix_srcLen (p : Pixel) : (s.setPix p).srcLen = s.srcLen := rfl
@[simp] theorem State.setPix_src (p : Pixel) : (s.setPix p).src = s.src := rfl
@[simp] theorem State.setPix_raster (p : Pixel) : (s.setPix p).raster = s.raster := rfl
@[simp] theorem State.setPix_rasterTrust (p : Pixel) : (s.setPix p).rasterTrust = s.rasterTrust := rfl

/-! ### setRaster -/

@[simp] theorem State.setRaster_ph (m : Memory) : (s.setRaster m).ph = s.ph := rfl
@[simp] theorem State.setRaster_row (m : Memory) : (s.setRaster m).row = s.row := rfl
@[simp] theorem State.setRaster_grp (m : Memory) : (s.setRaster m).grp = s.grp := rfl
@[simp] theorem State.setRaster_pat (m : Memory) : (s.setRaster m).pat = s.pat := rfl
@[simp] theorem State.setRaster_vrep (m : Memory) : (s.setRaster m).vrep = s.vrep := rfl
@[simp] theorem State.setRaster_hrep (m : Memory) : (s.setRaster m).hrep = s.hrep := rfl
@[simp] theorem State.setRaster_base (m : Memory) : (s.setRaster m).base = s.base := rfl
@[simp] theorem State.setRaster_aux0 (m : Memory) : (s.setRaster m).aux0 = s.aux0 := rfl
@[simp] theorem State.setRaster_aux1 (m : Memory) : (s.setRaster m).aux1 = s.aux1 := rfl
@[simp] theorem State.setRaster_main0 (m : Memory) : (s.setRaster m).main0 = s.main0 := rfl
@[simp] theorem State.setRaster_main1 (m : Memory) : (s.setRaster m).main1 = s.main1 := rfl
@[simp] theorem State.setRaster_pidx (m : Memory) : (s.setRaster m).pidx = s.pidx := rfl
@[simp] theorem State.setRaster_cidx (m : Memory) : (s.setRaster m).cidx = s.cidx := rfl
@[simp] theorem State.setRaster_pix (m : Memory) : (s.setRaster m).pix = s.pix := rfl
@[simp] theorem State.setRaster_err (m : Memory) : (s.setRaster m).err = s.err := rfl
@[simp] theorem State.setRaster_resetPin (m : Memory) : (s.setRaster m).resetPin = s.resetPin := rfl
@[simp] theorem State.setRaster_cmd (m : Memory) : (s.setRaster m).cmd = s.cmd := rfl
@[simp] theorem State.setRaster_srcLen (m : Memory) : (s.setRaster m).srcLen = s.srcLen := rfl
@[simp] theorem State.setRaster_src (m : Memory) : (s.setRaster m).src = s.src := rfl
@[simp] theorem State.setRaster_raster (m : Memory) : (s.setRaster m).raster = m := rfl
@[simp] theorem State.setRaster_rasterTrust (m : Memory) : (s.setRaster m).rasterTrust = s.rasterTrust := rfl

/-! ### setRasterTrust -/

@[simp] theorem State.setRasterTrust_ph (u : RasterTrust) : (s.setRasterTrust u).ph = s.ph := rfl
@[simp] theorem State.setRasterTrust_row (u : RasterTrust) : (s.setRasterTrust u).row = s.row := rfl
@[simp] theorem State.setRasterTrust_grp (u : RasterTrust) : (s.setRasterTrust u).grp = s.grp := rfl
@[simp] theorem State.setRasterTrust_pat (u : RasterTrust) : (s.setRasterTrust u).pat = s.pat := rfl
@[simp] theorem State.setRasterTrust_vrep (u : RasterTrust) : (s.setRasterTrust u).vrep = s.vrep := rfl
@[simp] theorem State.setRasterTrust_hrep (u : RasterTrust) : (s.setRasterTrust u).hrep = s.hrep := rfl
@[simp] theorem State.setRasterTrust_base (u : RasterTrust) : (s.setRasterTrust u).base = s.base := rfl
@[simp] theorem State.setRasterTrust_aux0 (u : RasterTrust) : (s.setRasterTrust u).aux0 = s.aux0 := rfl
@[simp] theorem State.setRasterTrust_aux1 (u : RasterTrust) : (s.setRasterTrust u).aux1 = s.aux1 := rfl
@[simp] theorem State.setRasterTrust_main0 (u : RasterTrust) : (s.setRasterTrust u).main0 = s.main0 := rfl
@[simp] theorem State.setRasterTrust_main1 (u : RasterTrust) : (s.setRasterTrust u).main1 = s.main1 := rfl
@[simp] theorem State.setRasterTrust_pidx (u : RasterTrust) : (s.setRasterTrust u).pidx = s.pidx := rfl
@[simp] theorem State.setRasterTrust_cidx (u : RasterTrust) : (s.setRasterTrust u).cidx = s.cidx := rfl
@[simp] theorem State.setRasterTrust_pix (u : RasterTrust) : (s.setRasterTrust u).pix = s.pix := rfl
@[simp] theorem State.setRasterTrust_err (u : RasterTrust) : (s.setRasterTrust u).err = s.err := rfl
@[simp] theorem State.setRasterTrust_resetPin (u : RasterTrust) : (s.setRasterTrust u).resetPin = s.resetPin := rfl
@[simp] theorem State.setRasterTrust_cmd (u : RasterTrust) : (s.setRasterTrust u).cmd = s.cmd := rfl
@[simp] theorem State.setRasterTrust_srcLen (u : RasterTrust) : (s.setRasterTrust u).srcLen = s.srcLen := rfl
@[simp] theorem State.setRasterTrust_src (u : RasterTrust) : (s.setRasterTrust u).src = s.src := rfl
@[simp] theorem State.setRasterTrust_raster (u : RasterTrust) : (s.setRasterTrust u).raster = s.raster := rfl
@[simp] theorem State.setRasterTrust_rasterTrust (u : RasterTrust) : (s.setRasterTrust u).rasterTrust = u := rfl

/-! ### setPorts -/

@[simp] theorem State.setPorts_ph (r c : Bool) : (s.setPorts r c).ph = s.ph := rfl
@[simp] theorem State.setPorts_row (r c : Bool) : (s.setPorts r c).row = s.row := rfl
@[simp] theorem State.setPorts_grp (r c : Bool) : (s.setPorts r c).grp = s.grp := rfl
@[simp] theorem State.setPorts_pat (r c : Bool) : (s.setPorts r c).pat = s.pat := rfl
@[simp] theorem State.setPorts_vrep (r c : Bool) : (s.setPorts r c).vrep = s.vrep := rfl
@[simp] theorem State.setPorts_hrep (r c : Bool) : (s.setPorts r c).hrep = s.hrep := rfl
@[simp] theorem State.setPorts_base (r c : Bool) : (s.setPorts r c).base = s.base := rfl
@[simp] theorem State.setPorts_aux0 (r c : Bool) : (s.setPorts r c).aux0 = s.aux0 := rfl
@[simp] theorem State.setPorts_aux1 (r c : Bool) : (s.setPorts r c).aux1 = s.aux1 := rfl
@[simp] theorem State.setPorts_main0 (r c : Bool) : (s.setPorts r c).main0 = s.main0 := rfl
@[simp] theorem State.setPorts_main1 (r c : Bool) : (s.setPorts r c).main1 = s.main1 := rfl
@[simp] theorem State.setPorts_pidx (r c : Bool) : (s.setPorts r c).pidx = s.pidx := rfl
@[simp] theorem State.setPorts_cidx (r c : Bool) : (s.setPorts r c).cidx = s.cidx := rfl
@[simp] theorem State.setPorts_pix (r c : Bool) : (s.setPorts r c).pix = s.pix := rfl
@[simp] theorem State.setPorts_err (r c : Bool) : (s.setPorts r c).err = s.err := rfl
@[simp] theorem State.setPorts_resetPin (r c : Bool) : (s.setPorts r c).resetPin = r := rfl
@[simp] theorem State.setPorts_cmd (r c : Bool) : (s.setPorts r c).cmd = c := rfl
@[simp] theorem State.setPorts_srcLen (r c : Bool) : (s.setPorts r c).srcLen = s.srcLen := rfl
@[simp] theorem State.setPorts_src (r c : Bool) : (s.setPorts r c).src = s.src := rfl
@[simp] theorem State.setPorts_raster (r c : Bool) : (s.setPorts r c).raster = s.raster := rfl
@[simp] theorem State.setPorts_rasterTrust (r c : Bool) : (s.setPorts r c).rasterTrust = s.rasterTrust := rfl

/-! ### setSource -/

@[simp] theorem State.setSource_ph (m : Memory) (n : Nat) : (s.setSource m n).ph = s.ph := rfl
@[simp] theorem State.setSource_row (m : Memory) (n : Nat) : (s.setSource m n).row = s.row := rfl
@[simp] theorem State.setSource_grp (m : Memory) (n : Nat) : (s.setSource m n).grp = s.grp := rfl
@[simp] theorem State.setSource_pat (m : Memory) (n : Nat) : (s.setSource m n).pat = s.pat := rfl
@[simp] theorem State.setSource_vrep (m : Memory) (n : Nat) : (s.setSource m n).vrep = s.vrep := rfl
@[simp] theorem State.setSource_hrep (m : Memory) (n : Nat) : (s.setSource m n).hrep = s.hrep := rfl
@[simp] theorem State.setSource_base (m : Memory) (n : Nat) : (s.setSource m n).base = s.base := rfl
@[simp] theorem State.setSource_aux0 (m : Memory) (n : Nat) : (s.setSource m n).aux0 = s.aux0 := rfl
@[simp] theorem State.setSource_aux1 (m : Memory) (n : Nat) : (s.setSource m n).aux1 = s.aux1 := rfl
@[simp] theorem State.setSource_main0 (m : Memory) (n : Nat) : (s.setSource m n).main0 = s.main0 := rfl
@[simp] theorem State.setSource_main1 (m : Memory) (n : Nat) : (s.setSource m n).main1 = s.main1 := rfl
@[simp] theorem State.setSource_pidx (m : Memory) (n : Nat) : (s.setSource m n).pidx = s.pidx := rfl
@[simp] theorem State.setSource_cidx (m : Memory) (n : Nat) : (s.setSource m n).cidx = s.cidx := rfl
@[simp] theorem State.setSource_pix (m : Memory) (n : Nat) : (s.setSource m n).pix = s.pix := rfl
@[simp] theorem State.setSource_err (m : Memory) (n : Nat) : (s.setSource m n).err = s.err := rfl
@[simp] theorem State.setSource_resetPin (m : Memory) (n : Nat) : (s.setSource m n).resetPin = s.resetPin := rfl
@[simp] theorem State.setSource_cmd (m : Memory) (n : Nat) : (s.setSource m n).cmd = s.cmd := rfl
@[simp] theorem State.setSource_srcLen (m : Memory) (n : Nat) : (s.setSource m n).srcLen = n := rfl
@[simp] theorem State.setSource_src (m : Memory) (n : Nat) : (s.setSource m n).src = m := rfl
@[simp] theorem State.setSource_raster (m : Memory) (n : Nat) : (s.setSource m n).raster = s.raster := rfl
@[simp] theorem State.setSource_rasterTrust (m : Memory) (n : Nat) : (s.setSource m n).rasterTrust = s.rasterTrust := rfl

/-! ### setPos -/

@[simp] theorem State.setPos_ph (p : Position) : (s.setPos p).ph = p.ph := rfl
@[simp] theorem State.setPos_row (p : Position) : (s.setPos p).row = p.row := rfl
@[simp] theorem State.setPos_grp (p : Position) : (s.setPos p).grp = p.grp := rfl
@[simp] theorem State.setPos_pat (p : Position) : (s.setPos p).pat = p.pat := rfl
@[simp] theorem State.setPos_vrep (p : Position) : (s.setPos p).vrep = p.vrep := rfl
@[simp] theorem State.setPos_hrep (p : Position) : (s.setPos p).hrep = p.hrep := rfl
@[simp] theorem State.setPos_base (p : Position) : (s.setPos p).base = s.base := rfl
@[simp] theorem State.setPos_aux0 (p : Position) : (s.setPos p).aux0 = s.aux0 := rfl
@[simp] theorem State.setPos_aux1 (p : Position) : (s.setPos p).aux1 = s.aux1 := rfl
@[simp] theorem State.setPos_main0 (p : Position) : (s.setPos p).main0 = s.main0 := rfl
@[simp] theorem State.setPos_main1 (p : Position) : (s.setPos p).main1 = s.main1 := rfl
@[simp] theorem State.setPos_pidx (p : Position) : (s.setPos p).pidx = s.pidx := rfl
@[simp] theorem State.setPos_cidx (p : Position) : (s.setPos p).cidx = s.cidx := rfl
@[simp] theorem State.setPos_pix (p : Position) : (s.setPos p).pix = s.pix := rfl
@[simp] theorem State.setPos_err (p : Position) : (s.setPos p).err = s.err := rfl
@[simp] theorem State.setPos_resetPin (p : Position) : (s.setPos p).resetPin = s.resetPin := rfl
@[simp] theorem State.setPos_cmd (p : Position) : (s.setPos p).cmd = s.cmd := rfl
@[simp] theorem State.setPos_srcLen (p : Position) : (s.setPos p).srcLen = s.srcLen := rfl
@[simp] theorem State.setPos_src (p : Position) : (s.setPos p).src = s.src := rfl
@[simp] theorem State.setPos_raster (p : Position) : (s.setPos p).raster = s.raster := rfl
@[simp] theorem State.setPos_rasterTrust (p : Position) : (s.setPos p).rasterTrust = s.rasterTrust := rfl

/-! ### clearCore -/

@[simp] theorem State.clearCore_ph : (s.clearCore).ph = s.ph := rfl
@[simp] theorem State.clearCore_row : (s.clearCore).row = 0 := rfl
@[simp] theorem State.clearCore_grp : (s.clearCore).grp = 0 := rfl
@[simp] theorem State.clearCore_pat : (s.clearCore).pat = 0 := rfl
@[simp] theorem State.clearCore_vrep : (s.clearCore).vrep = 0 := rfl
@[simp] theorem State.clearCore_hrep : (s.clearCore).hrep = 0 := rfl
@[simp] theorem State.clearCore_base : (s.clearCore).base = none := rfl
@[simp] theorem State.clearCore_aux0 : (s.clearCore).aux0 = none := rfl
@[simp] theorem State.clearCore_aux1 : (s.clearCore).aux1 = none := rfl
@[simp] theorem State.clearCore_main0 : (s.clearCore).main0 = none := rfl
@[simp] theorem State.clearCore_main1 : (s.clearCore).main1 = none := rfl
@[simp] theorem State.clearCore_pidx : (s.clearCore).pidx = none := rfl
@[simp] theorem State.clearCore_cidx : (s.clearCore).cidx = none := rfl
@[simp] theorem State.clearCore_pix : (s.clearCore).pix = none := rfl
@[simp] theorem State.clearCore_err : (s.clearCore).err = .noError := rfl
@[simp] theorem State.clearCore_resetPin : (s.clearCore).resetPin = s.resetPin := rfl
@[simp] theorem State.clearCore_cmd : (s.clearCore).cmd = s.cmd := rfl
@[simp] theorem State.clearCore_srcLen : (s.clearCore).srcLen = s.srcLen := rfl
@[simp] theorem State.clearCore_src : (s.clearCore).src = s.src := rfl
@[simp] theorem State.clearCore_raster : (s.clearCore).raster = s.raster := rfl
@[simp] theorem State.clearCore_rasterTrust : (s.clearCore).rasterTrust = s.rasterTrust := rfl

/-! ### The position as a view -/

@[simp] theorem State.pos_ph : s.pos.ph = s.ph := rfl
@[simp] theorem State.pos_row : s.pos.row = s.row := rfl
@[simp] theorem State.pos_grp : s.pos.grp = s.grp := rfl
@[simp] theorem State.pos_pat : s.pos.pat = s.pat := rfl
@[simp] theorem State.pos_vrep : s.pos.vrep = s.vrep := rfl
@[simp] theorem State.pos_hrep : s.pos.hrep = s.hrep := rfl
@[simp] theorem State.pos_setPos (p : Position) : (s.setPos p).pos = p := rfl

end Sys2Proof.Machine
end

