-- ==== Sys2Proof/Laws/Ops.lean ====
section
/-! SUPPORT. One lemma for each shared operation: everything it can do. -/

namespace Sys2Proof.Machine

/-! ### Latches -/

@[simp] theorem withLatch_some {α : Type} (n : LatchName) (v : α) (go : α → Result) : withLatch n (some v) go = go v := rfl

@[simp] theorem withLatch_none {α : Type} (n : LatchName) (go : α → Result) :
    withLatch n none go = .fault (.latchHoldsNoValue n) := rfl

theorem withLatch_eq_next {α : Type} {n : LatchName} {latch : Option α} {go : α → Result} {t : State}
    (h : withLatch n latch go = .next t) : ∃ v, latch = some v ∧ go v = .next t := by
  cases latch with
  | none => simp at h
  | some v => exact ⟨v, rfl, h⟩

/-! ### Errors -/

theorem raiseError_eq_next {e : ErrorCode} {s t : State} (h : raiseError e s = .next t) :
    t = ((s.setErr e).setPh .fail).setRasterTrust (if e = .outOfRangeAccess then .only [] else s.rasterTrust) := by
  injection h with h
  exact h.symm

/-! ### The palette -/

@[simp] theorem palRom_zero : palRom 0 = ⟨0, 0, 0⟩ := rfl

theorem palRom_of_ne_zero {c : Index} (h : c ≠ 0) : palRom c = Config.palette c := if_neg h

/-! ### The slices -/

theorem sliceInto_eq_next {p : Index} {s t : State} (h : sliceInto p s = .next t) : t = (s.setPidx p).setPh .rev4 := by
  injection h with h
  exact h.symm

theorem execSlice_eq_next {i : Instr}
    (hi : i ∈ [Instr.slice0, .slice1, .slice2, .slice3, .slice4, .slice5, .slice6]) {s t : State}
    (h : exec i s = .next t) : ∃ p, t = (s.setPidx p).setPh .rev4 := by
  simp only [List.mem_cons, List.not_mem_nil, or_false] at hi
  rcases hi with rfl | rfl | rfl | rfl | rfl | rfl | rfl <;> obtain ⟨_, _, h⟩ := withLatch_eq_next h
  case inr.inl | inr.inr.inr.inl | inr.inr.inr.inr.inr.inl =>
    obtain ⟨_, _, h⟩ := withLatch_eq_next h
    exact ⟨_, sliceInto_eq_next h⟩
  all_goals exact ⟨_, sliceInto_eq_next h⟩

theorem execRev4_eq_next {s t : State} (h : execRev4 s = .next t) :
    ∃ p, s.pidx = some p ∧ t = (s.setCidx (rev4 p)).setPh .pallook := by
  obtain ⟨p, hp, h⟩ := withLatch_eq_next h
  injection h with h
  exact ⟨p, hp, h.symm⟩

theorem execPallook_eq_next {s t : State} (h : execPallook s = .next t) :
    ∃ c, s.cidx = some c ∧ t = (s.setPix (palRom c)).setPh .wrpix := by
  obtain ⟨c, hc, h⟩ := withLatch_eq_next h
  injection h with h
  exact ⟨c, hc, h.symm⟩

theorem execFetch4_of_inRange {s : State} {b : BitVec 13} (hb : s.base = some b)
    (h : b.toNat + colOf s.grp.val + 1 < 0x2000) :
    execFetch4 s = .next ((s.fetchGroup (b.toNat + colOf s.grp.val)).setPh .slice) := by
  rw [execFetch4, hb, withLatch_some, if_neg (by omega)]

theorem execFetch4_of_outOfRange {s : State} {b : BitVec 13} (hb : s.base = some b)
    (h : b.toNat + colOf s.grp.val + 1 ≥ 0x2000) : execFetch4 s = raiseError .outOfRangeAccess s := by
  rw [execFetch4, hb, withLatch_some, if_pos h]

/-- All seven slices at once: with the four byte latches readable, SLICE`i` writes pattern `i`. -/
theorem exec_sliceOp {s : State} {a0 a1 m0 m1 : Byte} (h0 : s.aux0 = some a0) (h1 : s.aux1 = some a1)
    (h2 : s.main0 = some m0) (h3 : s.main1 = some m1) (i : Fin 7) :
    exec (sliceOp i) s = sliceInto (sliceOf i a0 a1 m0 m1) s := by
  fin_cases i <;>
    simp [sliceOp, sliceOf, exec, execSlice0, execSlice1, execSlice2, execSlice3, execSlice4, execSlice5, execSlice6,
      h0, h1, h2, h3]

theorem execFetch4_eq_next {s t : State} (h : execFetch4 s = .next t) :
    ∃ b, s.base = some b ∧
      ((b.toNat + colOf s.grp.val + 1 ≥ 0x2000 ∧ raiseError .outOfRangeAccess s = .next t) ∨
        (b.toNat + colOf s.grp.val + 1 < 0x2000 ∧ t = (s.fetchGroup (b.toNat + colOf s.grp.val)).setPh .slice)) := by
  obtain ⟨b, hb, h⟩ := withLatch_eq_next h
  refine ⟨b, hb, ?_⟩
  by_cases hr : b.toNat + colOf s.grp.val + 1 ≥ 0x2000
  · rw [if_pos hr] at h
    exact .inl ⟨hr, h⟩
  · rw [if_neg hr] at h
    injection h with h
    exact .inr ⟨by omega, h.symm⟩

theorem execWrpix_eq_next {s t : State} (h : execWrpix s = .next t) :
    ∃ p, s.pix = some p ∧ t = (s.setRaster (s.raster.writePixel (writeAddr s.pos) p)).moveTo (advance s.pos) := by
  obtain ⟨p, hp, h⟩ := withLatch_eq_next h
  injection h with h
  exact ⟨p, hp, h.symm⟩

theorem execChklen_cases (s : State) :
    (s.srcLen < 0x4000 ∧ execChklen s = raiseError .invalidInputLength s) ∨
      (0x4000 ≤ s.srcLen ∧ execChklen s = .next (s.setPh .amlook)) := by
  unfold execChklen
  split
  · exact .inl ⟨‹_›, rfl⟩
  · exact .inr ⟨by omega, rfl⟩

theorem execDecode_cases (s : State) :
    (s.status = .busy ∧ execDecode s = .next (s.setPorts s.resetPin false)) ∨
      (s.status ≠ .busy ∧ execDecode s = .next (s.accept.setPorts s.resetPin false)) := by
  unfold execDecode
  split
  · exact .inl ⟨‹_›, rfl⟩
  · exact .inr ⟨‹_›, rfl⟩

/-! ### The position -/

/-- The address of any position lies in RASTER, with its three bytes (43_rasterizer R162). -/
theorem writeAddr_range (p : Position) : writeAddr p + 2 < 645120 := by
  obtain ⟨_, r, g, i, v, h⟩ := p
  simp only [writeAddr, rasterAddr, pixelNumber, outputRow, outputColumn, indexColumn]
  omega

/-- The six ways ADVANCE goes (44_sequencer_and_commands R183). -/
theorem advance_cases (p : Position) :
    (p.hrep.val < 3 ∧ advance p = { p with hrep := p.hrep + 1, ph := .wrpix }) ∨
    (p.hrep.val = 3 ∧ p.vrep = 0 ∧ advance p = { p with hrep := 0, vrep := 1, ph := .wrpix }) ∨
    (p.hrep.val = 3 ∧ p.vrep = 1 ∧ p.pat.val < 6 ∧
      advance p = { p with hrep := 0, vrep := 0, pat := p.pat + 1, ph := .slice }) ∨
    (p.hrep.val = 3 ∧ p.vrep = 1 ∧ p.pat.val = 6 ∧ p.grp.val < 19 ∧
      advance p = { p with hrep := 0, vrep := 0, pat := 0, grp := p.grp + 1, ph := .fetch4 }) ∨
    (p.hrep.val = 3 ∧ p.vrep = 1 ∧ p.pat.val = 6 ∧ p.grp.val = 19 ∧ p.row.val < 191 ∧
      advance p = { p with hrep := 0, vrep := 0, pat := 0, grp := 0, row := p.row + 1, ph := .amlook }) ∨
    (p.hrep.val = 3 ∧ p.vrep = 1 ∧ p.pat.val = 6 ∧ p.grp.val = 19 ∧ p.row.val = 191 ∧
      advance p = { p with hrep := 0, vrep := 0, pat := 0, grp := 0, row := 0, ph := .done }) := by
  obtain ⟨ph, r, g, i, v, h⟩ := p
  unfold advance
  by_cases h1 : h.val < 3
  · simp [h1]
  by_cases h2 : v.val = 0
  · have hv : v = 0 := Fin.ext h2
    have : h.val = 3 := by omega
    simp [this, hv]
  have hv : v = 1 := Fin.ext (by simp; omega)
  have hh : h.val = 3 := by omega
  by_cases h3 : i.val < 6
  · simp [hh, hv, h3]
  have hi : i.val = 6 := by omega
  by_cases h4 : g.val < 19
  · simp [hh, hv, hi, h4]
  have hg : g.val = 19 := by omega
  by_cases h5 : r.val < 191
  · simp [hh, hv, hi, hg, h5]
  have hr : r.val = 191 := by omega
  simp [hh, hv, hi, hg, hr]

/-! ### Which operation is selected -/

theorem fetch_reset {s : State} (h : s.resetPin = true) : fetch s = .ok .reset := by
  simp [fetch, h, decode]

theorem fetch_decode {s : State} (hr : s.resetPin = false) (hc : s.cmd = true) : fetch s = .ok .decode := by
  simp [fetch, hr, hc, decode]

/-- The operation of a phase and a pattern counter (44_sequencer_and_commands R179). -/
def operationOf (p : Phase) (i : Fin 7) : Instr :=
  match p with
  | .idle => .waitIdle
  | .chklen => .chklen
  | .amlook => .amlook
  | .fetch4 => .fetch4
  | .slice => sliceOp i
  | .rev4 => .rev4
  | .pallook => .pallook
  | .wrpix => .wrpix
  | .done => .waitDone
  | .fail => .waitFail

theorem decode_opWord (p : Phase) (i : Fin 7) : decode .uop (8 * phaseCode p + i.val) = .ok (operationOf p i) := by
  cases p <;> revert i <;> decide

theorem fetch_uop {s : State} (hr : s.resetPin = false) (hc : s.cmd = false) :
    fetch s = .ok (operationOf s.ph s.pat) := by
  simp only [fetch, hr, hc, State.opWord, decode_opWord]
  rfl

/-- Every state selects an operation: `Refusal.noOperation` is never raised. -/
theorem fetch_total (s : State) : ∃ i, fetch s = .ok i := by
  cases hr : s.resetPin with
  | true => exact ⟨_, fetch_reset hr⟩
  | false =>
    cases hc : s.cmd with
    | true => exact ⟨_, fetch_decode hr hc⟩
    | false => exact ⟨_, fetch_uop hr hc⟩

theorem step_of_fetch {s : State} {i : Instr} (h : fetch s = .ok i) : step s = exec i s := by
  simp [step, h]

/-! ### Runs -/

theorem stepN_succ_next {n : Nat} {s t : State} (h : step s = .next t) : stepN (n + 1) s = stepN n t := by
  simp [stepN, h]

theorem stepN_add {m : Nat} : ∀ {n : Nat} {s t : State}, stepN n s = .next t → stepN (n + m) s = stepN m t
  | 0, s, t, h => by
    injection h with h
    simp [h]
  | n + 1, s, t, h => by
    rw [Nat.add_right_comm]
    cases hs : step s with
    | next u =>
      rw [stepN_succ_next hs] at h ⊢
      exact stepN_add h
    | fault r => simp [stepN, hs] at h
    | refused r => simp [stepN, hs] at h

end Sys2Proof.Machine
end

