-- ==== Sys2Proof/Laws/Core.lean ====
section
/-! SUPPORT. The model's runs are the host interface's runs. -/

namespace Sys2Proof.Machine

theorem core_run_eq_stepN (n : Nat) (s : State) : Host.Core.run Sys2Proof.core n s = stepN n s := by
  induction n generalizing s with
  | zero => rfl
  | succ n ih =>
    have h : Sys2Proof.core.step s = step s := rfl
    simp only [Host.Core.run, stepN, h]
    cases step s with
    | next t => exact ih t
    | fault r => rfl
    | refused r => rfl

end Sys2Proof.Machine
end

