-- ==== Sys2Proof/Laws/Host.lean ====
section
/-! SUPPORT. One lemma for each move of the HOST: everything it can do. -/

namespace Sys2Proof.Machine

theorem State.hostOwns_iff (s : State) : s.hostOwns = true ↔ s.status ≠ .busy ∧ s.cmd = false := by
  simp [State.hostOwns]

theorem State.hostPlace_eq_some {s t : State} {buffer : List Byte} (h : s.hostPlace buffer = some t) :
    s.hostOwns = true ∧ t = s.setSource (placeFrom 0 (buffer.take 0x4000)) buffer.length := by
  unfold State.hostPlace at h
  split at h
  · exact ⟨‹_›, by simpa using h.symm⟩
  · cases h

theorem State.hostWriteRaster_eq_some {s t : State} {a : Nat} {b : Byte} (h : s.hostWriteRaster a b = some t) :
    s.hostOwns = true ∧ a < 645120 ∧ t = (s.setRaster (s.raster.write a b)).setRasterTrust (s.rasterTrust.add a) := by
  unfold State.hostWriteRaster at h
  split at h
  · exact ⟨And.left ‹_›, And.right ‹_›, by simpa using h.symm⟩
  · cases h

end Sys2Proof.Machine
end

