-- ==== Sys2Proof/Laws/Memory.lean ====
section
/-! SUPPORT. The laws of memory: a read after a write, and that every memory operation keeps the canonical form. -/

namespace Sys2Proof.Machine

@[simp] theorem Memory.read_nil (a : Nat) : Memory.read [] a = none := rfl

theorem Memory.read_write (m : Memory) (a a' : Nat) (v : Byte) :
    (m.write a v).read a' = if a' = a then some v else m.read a' := by
  induction m with
  | nil => simp [Memory.write, Memory.read]
  | cons c m ih =>
    obtain ⟨k, b⟩ := c
    simp only [Memory.write]
    split
    · simp [Memory.read]
    · split
      · next h => subst h; by_cases ha : a' = a <;> simp [Memory.read, ha]
      · next hne =>
        simp only [Memory.read, ih]
        by_cases ha : a' = a
        · subst ha; simp [hne]
        · simp [ha]

@[simp] theorem Memory.read_write_same (m : Memory) (a : Nat) (v : Byte) : (m.write a v).read a = some v := by
  simp [Memory.read_write]

theorem Memory.read_write_other {a a' : Nat} (h : a' ≠ a) (m : Memory) (v : Byte) :
    (m.write a v).read a' = m.read a' := by
  simp [Memory.read_write, h]

/-- A pixel's three bytes after the write, and every other byte as before (20_memory R57). -/
theorem Memory.read_writePixel (m : Memory) (a a' : Nat) (p : Pixel) :
    (m.writePixel a p).read a' =
      if a' = a then some p.r else if a' = a + 1 then some p.g else if a' = a + 2 then some p.b else m.read a' := by
  simp only [Memory.writePixel, Memory.read_write]
  split_ifs <;> first | rfl | omega

theorem Memory.mem_write {m : Memory} {a : Nat} {v : Byte} {c : Host.Cell} (h : c ∈ m.write a v) :
    c = (a, v) ∨ c ∈ m := by
  induction m with
  | nil => simpa [Memory.write] using h
  | cons d m ih =>
    obtain ⟨k, b⟩ := d
    simp only [Memory.write] at h
    split at h
    · simpa using h
    · split at h
      · rcases List.mem_cons.1 h with h | h
        · exact .inl h
        · exact .inr (List.mem_cons_of_mem _ h)
      · rcases List.mem_cons.1 h with h | h
        · exact .inr (by simp [h])
        · exact (ih h).imp_right (List.mem_cons_of_mem _)

theorem Memory.wf_write {m : Memory} (h : m.wf) (a : Nat) (v : Byte) : (m.write a v).wf := by
  induction m with
  | nil => simp [Memory.write, Memory.wf]
  | cons d m ih =>
    obtain ⟨k, b⟩ := d
    obtain ⟨hk, hm⟩ := List.pairwise_cons.1 h
    simp only [Memory.write]
    split
    · next hlt =>
      refine List.pairwise_cons.2 ⟨fun c hc => ?_, h⟩
      rcases List.mem_cons.1 hc with rfl | hc
      · exact hlt
      · exact lt_trans hlt (hk c hc)
    · split
      · next heq => subst heq; exact List.pairwise_cons.2 ⟨hk, hm⟩
      · next hnlt hne =>
        refine List.pairwise_cons.2 ⟨fun c hc => ?_, ih hm⟩
        rcases Memory.mem_write hc with rfl | hc
        · show k < a
          omega
        · exact hk c hc

theorem Memory.below_write {n : Nat} {m : Memory} (h : m.below n) {a : Nat} (ha : a < n) (v : Byte) :
    (m.write a v).below n := fun c hc => by
  rcases Memory.mem_write hc with rfl | hc
  · exact ha
  · exact h c hc

theorem Memory.wf_writePixel {m : Memory} (h : m.wf) (a : Nat) (p : Pixel) : (m.writePixel a p).wf :=
  Memory.wf_write (Memory.wf_write (Memory.wf_write h _ _) _ _) _ _

theorem Memory.below_writePixel {n : Nat} {m : Memory} (h : m.below n) {a : Nat} (ha : a + 2 < n) (p : Pixel) :
    (m.writePixel a p).below n :=
  Memory.below_write (Memory.below_write (Memory.below_write h (by omega) _) (by omega) _) ha _

theorem Memory.below_mono {n k : Nat} (hnk : n ≤ k) {m : Memory} (h : m.below n) : m.below k :=
  fun c hc => lt_of_lt_of_le (h c hc) hnk

/-- Reset lists nothing. -/
theorem reset_memory_wf : State.reset.src.wf ∧ State.reset.raster.wf :=
  ⟨List.Pairwise.nil, List.Pairwise.nil⟩

theorem mem_placeFrom {a : Nat} {bs : List Byte} {c : Host.Cell} (h : c ∈ placeFrom a bs) :
    a ≤ c.1 ∧ c.1 < a + bs.length := by
  induction bs generalizing a with
  | nil => simp [placeFrom] at h
  | cons b bs ih =>
    rcases List.mem_cons.1 h with rfl | h
    · simp
    · have := ih h
      simp only [List.length_cons]
      omega

theorem wf_placeFrom (a : Nat) (bs : List Byte) : (placeFrom a bs).wf := by
  induction bs generalizing a with
  | nil => exact List.Pairwise.nil
  | cons b bs ih =>
    refine List.pairwise_cons.2 ⟨fun c hc => ?_, ih _⟩
    have := mem_placeFrom hc
    show a < c.1
    omega

/-- What the host has placed is what a read gives. -/
theorem read_placeFrom (a i : Nat) (bs : List Byte) : (placeFrom a bs).read (a + i) = bs[i]? := by
  induction bs generalizing a i with
  | nil => simp [placeFrom]
  | cons b bs ih =>
    cases i with
    | zero => simp [placeFrom, Memory.read]
    | succ i =>
      have : a + (i + 1) = a + 1 + i := by omega
      rw [placeFrom, Memory.read, if_neg (by omega), this, ih]
      simp

/-! ### The record of the bytes of RASTER the host can rely on (log entry 5) -/

theorem mem_insertAddr {l : List Nat} {a x : Nat} : x ∈ insertAddr l a ↔ x = a ∨ x ∈ l := by
  induction l with
  | nil => simp [insertAddr]
  | cons k l ih =>
    unfold insertAddr
    split
    · simp
    · split
      · subst_vars; simp
      · simp only [List.mem_cons, ih]
        tauto

theorem pairwise_insertAddr {l : List Nat} (h : l.Pairwise (· < ·)) (a : Nat) : (insertAddr l a).Pairwise (· < ·) := by
  induction l with
  | nil => simp [insertAddr]
  | cons k l ih =>
    obtain ⟨hk, hl⟩ := List.pairwise_cons.1 h
    unfold insertAddr
    split
    · refine List.pairwise_cons.2 ⟨fun x hx => ?_, h⟩
      rcases List.mem_cons.1 hx with rfl | hx
      · assumption
      · exact lt_trans ‹_› (hk x hx)
    · split
      · exact h
      · refine List.pairwise_cons.2 ⟨fun x hx => ?_, ih hl⟩
        rcases mem_insertAddr.1 hx with rfl | hx
        · omega
        · exact hk x hx

/-- After the host has written one byte it can rely on that one and on those it could rely on before. -/
theorem RasterTrust.covers_add (u : RasterTrust) (a x : Nat) :
    (u.add a).covers x = true ↔ x = a ∨ u.covers x = true := by
  cases u with
  | whole => simp [RasterTrust.add, RasterTrust.covers]
  | only l => simp [RasterTrust.add, RasterTrust.covers, mem_insertAddr]

@[simp] theorem RasterTrust.covers_whole (x : Nat) : RasterTrust.covers .whole x = true := rfl

@[simp] theorem RasterTrust.covers_only_nil (x : Nat) : RasterTrust.covers (.only []) x = false := by
  simp [RasterTrust.covers]

theorem RasterTrust.wf_add {u : RasterTrust} (h : u.wf) {a : Nat} (ha : a < 645120) : (u.add a).wf := by
  cases u with
  | whole => trivial
  | only l =>
    refine ⟨pairwise_insertAddr h.1 a, fun x hx => ?_⟩
    rcases mem_insertAddr.1 hx with rfl | hx
    · exact ha
    · exact h.2 x hx

theorem RasterTrust.wf_only_nil : RasterTrust.wf (.only []) := ⟨List.Pairwise.nil, by simp⟩

/-! ### SRC -/

theorem srcByte_of_read {m : Memory} {a : Nat} {b : Byte} (h : m.read a = some b) : srcByte m a = b := by
  simp [srcByte, h]

end Sys2Proof.Machine
end

