-- ==== Sys2Proof/Laws/PerInstr.lean ====
section
/-! SUPPORT. The family of per-instruction lemmas named in LAWS.json: decoding an encoding gives the instruction back, for
every value of the bits the pattern leaves open (30_encoding R93). -/

namespace Sys2Proof.Laws.Encoding

/-- Decoding the word of `i` gives `i`, whatever counter value stands in its open bits, and the word is well formed. -/
def Statement (i : Instr) : Prop :=
  ∀ pat : Fin 7, decode (encode pat i).1 (encode pat i).2 = .ok i ∧
    wordWellFormed (encode pat i).1 (encode pat i).2 = true

theorem decode : Statement .decode := by unfold Statement; decide

theorem reset : Statement .reset := by unfold Statement; decide

theorem chklen : Statement .chklen := by unfold Statement; decide

theorem amlook : Statement .amlook := by unfold Statement; decide

theorem fetch4 : Statement .fetch4 := by unfold Statement; decide

theorem slice0 : Statement .slice0 := by unfold Statement; decide

theorem slice1 : Statement .slice1 := by unfold Statement; decide

theorem slice2 : Statement .slice2 := by unfold Statement; decide

theorem slice3 : Statement .slice3 := by unfold Statement; decide

theorem slice4 : Statement .slice4 := by unfold Statement; decide

theorem slice5 : Statement .slice5 := by unfold Statement; decide

theorem slice6 : Statement .slice6 := by unfold Statement; decide

theorem rev4 : Statement .rev4 := by unfold Statement; decide

theorem pallook : Statement .pallook := by unfold Statement; decide

theorem wrpix : Statement .wrpix := by unfold Statement; decide

theorem waitIdle : Statement .waitIdle := by unfold Statement; decide

theorem waitDone : Statement .waitDone := by unfold Statement; decide

theorem waitFail : Statement .waitFail := by unfold Statement; decide

end Sys2Proof.Laws.Encoding
end

