-- ==== Sys2Proof/Tests/Slice0.lean ====
section
/-! SUPPORT. Small tests of the model, one step each, and a witness for every obligation that has hypotheses. Expected values
are those of spec/95_test_vectors.md and of the rules' own examples, named in each comment. -/

namespace Sys2Proof.Tests

open Sys2Proof Sys2Proof.Machine

/-- The state an outcome leaves; a stop reads as reset, which no test expects. -/
def after (r : Result) : State :=
  match r with
  | .next t => t
  | .fault _ => State.reset
  | .refused _ => State.reset

/-- Whether an outcome is a next state. -/
def goesOn (r : Result) : Bool :=
  match r with
  | .next _ => true
  | .fault _ => false
  | .refused _ => false

/-- P4's group: row 100, group 19, with its four bytes in SRC (95_test_vectors P4). -/
def sampleState : State :=
  { State.reset with
    row := 100, grp := 19, base := some 0x1228
    src := [(0x124E, 0xA5), (0x124F, 0x5A), (0x324E, 0x3C), (0x324F, 0xC3)] }

/-- The running example of 41_nibble_extractor: aux0 = 0x35, aux1 = 0x4D, main0 = 0x6B, main1 = 0x72. -/
def latched : State :=
  { State.reset with aux0 := some 0x35, aux1 := some 0x4D, main0 := some 0x6B, main1 := some 0x72 }

/-- A position about to write the pixel (1, 2, 3). -/
def writing (r : Fin 192) (g : Fin 20) (i : Fin 7) (v : Fin 2) (h : Fin 4) : State :=
  { State.reset with ph := .wrpix, row := r, grp := g, pat := i, vrep := v, hrep := h, pix := some ⟨1, 2, 3⟩ }

/-- A state about to accept a command with a source of `n` bytes. -/
def starting (n : Nat) : State := { State.reset with cmd := true, srcLen := n }

/-! ### Well-formed words: one ill-formed word for each check -/

theorem test_wide_cmd_refused : wordWellFormed .cmd 2 = false := by decide
theorem test_wide_uop_refused : wordWellFormed .uop 128 = false := by decide
theorem test_no_command_refused : wordWellFormed .cmd 0 = false ∧ wordWellFormed .resetPin 0 = false := by decide
theorem test_phase_ten_refused : wordWellFormed .uop 0b1010000 = false := by decide
theorem test_slice_seven_refused : wordWellFormed .uop 0b0100111 = false := by decide
theorem test_wellFormed_words : wordWellFormed .uop 0b0111110 = true ∧ wordWellFormed .cmd 1 = true := by decide

/-! ### Decoding: every row's word, written from 30_encoding R93 and the encoding columns of 95_test_vectors section 3 -/

theorem test_decode_decode : decode .cmd 0b1 = .ok .decode := by decide
theorem test_decode_reset : decode .resetPin 0b1 = .ok .reset := by decide
theorem test_decode_chklen : decode .uop 0b0001000 = .ok .chklen := by decide
theorem test_decode_amlook : decode .uop 0b0010000 = .ok .amlook := by decide
theorem test_decode_fetch4 : decode .uop 0b0011000 = .ok .fetch4 := by decide
theorem test_decode_slice0 : decode .uop 0b0100000 = .ok .slice0 := by decide
theorem test_decode_slice1 : decode .uop 0b0100001 = .ok .slice1 := by decide
theorem test_decode_slice2 : decode .uop 0b0100010 = .ok .slice2 := by decide
theorem test_decode_slice3 : decode .uop 0b0100011 = .ok .slice3 := by decide
theorem test_decode_slice4 : decode .uop 0b0100100 = .ok .slice4 := by decide
theorem test_decode_slice5 : decode .uop 0b0100101 = .ok .slice5 := by decide
theorem test_decode_slice6 : decode .uop 0b0100110 = .ok .slice6 := by decide
theorem test_decode_rev4 : decode .uop 0b0101110 = .ok .rev4 := by decide
theorem test_decode_pallook : decode .uop 0b0110001 = .ok .pallook := by decide
theorem test_decode_wrpix : decode .uop 0b0111110 = .ok .wrpix := by decide
theorem test_decode_waitIdle : decode .uop 0b0000000 = .ok .waitIdle := by decide
theorem test_decode_waitDone : decode .uop 0b1000000 = .ok .waitDone := by decide
theorem test_decode_waitFail : decode .uop 0b1001000 = .ok .waitFail := by decide

/-- 30_encoding R95: reserved words are rejected by name. -/
theorem test_decode_reserved :
    decode .uop 0b0100111 = .error .reservedPattern ∧ decode .uop 0b1010000 = .error (.reservedPhase 10) ∧
      decode .uop 0b1111111 = .error (.reservedPhase 15) ∧ decode .cmd 0 = .error (.notAsserted .cmd) := by decide

/-- The rows of the opcode table in whole bytes (opcode_table.json "match"). -/
theorem test_table_words :
    [0x08, 0x10, 0x18, 0x20, 0x26, 0x28, 0x30, 0x38, 0x00, 0x40, 0x48, 0x01].map (decodeTableWord 8) =
      [some .chklen, some .amlook, some .fetch4, some .slice0, some .slice6, some .rev4, some .pallook, some .wrpix,
        some .waitIdle, some .waitDone, some .waitFail, some .decode] := by decide

/-- Every row's word runs as the first operation after reset. -/
theorem test_first_operation :
    ([0x01, 0x08, 0x10, 0x18, 0x20, 0x21, 0x22, 0x23, 0x24, 0x25, 0x26, 0x28, 0x30, 0x38, 0x00, 0x40, 0x48].all
      fun w => goesOn (step (State.reset.withFetchWord 8 w))) = true := by decide

/-! ### AM -/

/-- 40_address_mapper R111, example: row 100 gives 0x1228. -/
theorem test_amlook_100 : (after (exec .amlook sampleState)).base = some 0x1228 := by decide

/-- 95_test_vectors S1, and the largest entry. -/
theorem test_baseRom_samples :
    baseRom 0 = 0 ∧ baseRom 7 = 0x1C00 ∧ baseRom 8 = 0x80 ∧ baseRom 64 = 0x28 ∧ baseRom 191 = 0x1FD0 := by decide

/-! ### NX -/

/-- 95_test_vectors P4, step 157585: A5 5A 3C C3 from 0x124E 0x124F 0x324E 0x324F. -/
theorem test_fetch4_P4 :
    (after (exec .fetch4 sampleState)).aux0 = some 0xA5 ∧ (after (exec .fetch4 sampleState)).aux1 = some 0x5A ∧
      (after (exec .fetch4 sampleState)).main0 = some 0x3C ∧ (after (exec .fetch4 sampleState)).main1 = some 0xC3 := by
  decide

/-- 95_test_vectors T-ERR: BASE 0x1FE0 passes at group 15 and raises OutOfRangeAccess at group 16. -/
theorem test_fetch4_range :
    (after (exec .fetch4 { sampleState with base := some 0x1FE0, grp := 15 })).ph = .slice ∧
      (after (exec .fetch4 { sampleState with base := some 0x1FE0, grp := 16 })).err = .outOfRangeAccess ∧
      (after (exec .fetch4 { sampleState with base := some 0x1FE0, grp := 16 })).ph = .fail := by decide

/-- 41_nibble_extractor, the running example: patterns 5, 11, 5, 7, 3, 5, 14. -/
theorem test_slice0 : (after (exec .slice0 latched)).pidx = some 5 := by decide
theorem test_slice1 : (after (exec .slice1 latched)).pidx = some 11 := by decide
theorem test_slice2 : (after (exec .slice2 latched)).pidx = some 5 := by decide
theorem test_slice3 : (after (exec .slice3 latched)).pidx = some 7 := by decide
theorem test_slice4 : (after (exec .slice4 latched)).pidx = some 3 := by decide
theorem test_slice5 : (after (exec .slice5 latched)).pidx = some 5 := by decide
theorem test_slice6 : (after (exec .slice6 latched)).pidx = some 14 := by decide

/-- 95_test_vectors T-NX-S, row 0x48 0x28 0x58 0x73: patterns 8, 4, 12, 2, 10, 6, 14. -/
theorem test_slices_second_row :
    (List.finRange 7).map (fun i => sliceOf i 0x48 0x28 0x58 0x73) = [8, 4, 12, 2, 10, 6, 14] := by decide

/-- 95_test_vectors T-NX-S: the stream of 0x35 0x4D 0x6B 0x72 is 0xE5375B5. -/
theorem test_groupStream : groupStream 0x35 0x4D 0x6B 0x72 = 0xE5375B5 := by decide

/-- 41_nibble_extractor R137, example and D0's crafted pattern: 11 gives 13, 1 gives 8. -/
theorem test_rev4 :
    (after (exec .rev4 { State.reset with pidx := some 11 })).cidx = some 13 ∧
      (after (exec .rev4 { State.reset with pidx := some 1 })).cidx = some 8 := by decide

/-! ### PL -/

/-- 42_palette_lookup R151, example: index 0 is black. -/
theorem test_pallook_black :
    (after (exec .pallook { State.reset with cidx := some 0 })).pix = some ⟨0, 0, 0⟩ := by decide

/-! ### RZ -/

/-- 43_rasterizer R163, example: bytes 339354, 339355, 339356 get R, G, B. -/
theorem test_wrpix_address :
    (after (exec .wrpix (writing 100 19 6 1 2))).raster = [(339354, 1), (339355, 2), (339356, 3)] := by decide

/-- 95_test_vectors P1, P4 and 43_rasterizer R163: the annotations of trace lines. -/
theorem test_traceLine :
    traceLine .wrpix (writing 100 19 6 1 2) = ("WRPIX", [201, 558]) ∧ traceLine .fetch4 sampleState = ("FETCH4", [100, 19]) := by
  decide

/-- 95_test_vectors T-SEQ: the last write of a transaction, and the end of a row. -/
theorem test_wrpix_finish :
    (after (exec .wrpix (writing 191 19 6 1 3))).pos = ⟨.done, 0, 0, 0, 0, 0⟩ ∧
      (after (exec .wrpix (writing 190 19 6 1 3))).pos = ⟨.amlook, 191, 0, 0, 0, 0⟩ := by decide

/-- 95_test_vectors T-SEQ: the inner boundaries. -/
theorem test_advance_inner :
    advance ⟨.wrpix, 0, 0, 0, 0, 0⟩ = ⟨.wrpix, 0, 0, 0, 0, 1⟩ ∧ advance ⟨.wrpix, 0, 0, 0, 0, 3⟩ = ⟨.wrpix, 0, 0, 0, 1, 0⟩ ∧
      advance ⟨.wrpix, 0, 0, 5, 1, 3⟩ = ⟨.slice, 0, 0, 6, 0, 0⟩ ∧ advance ⟨.wrpix, 0, 18, 6, 1, 3⟩ = ⟨.fetch4, 0, 19, 0, 0, 0⟩ := by
  decide

/-- 95_test_vectors T-RZ, two rows of the table. -/
theorem test_writeAddr :
    writeAddr ⟨.wrpix, 95, 9, 3, 1, 1⟩ = 321675 ∧ writeAddr ⟨.wrpix, 191, 19, 6, 1, 3⟩ = 645117 := by decide

/-! ### SEQ -/

/-- 95_test_vectors T-SEQ-L: 0x3FF8 and 0x3FFF fail, 0x4000 passes. -/
theorem test_chklen :
    (after (exec .chklen (starting 0x3FF8))).err = .invalidInputLength ∧ (after (exec .chklen (starting 0x3FFF))).ph = .fail ∧
      (after (exec .chklen (starting 0x4000))).ph = .amlook := by decide

/-- 95_test_vectors P5: DECODE from IDLE is accepted; in a BUSY phase it is ignored and not queued. -/
theorem test_decode_command :
    (after (step (starting 0x4000))).ph = .chklen ∧ (after (step (starting 0x4000))).cmd = false ∧
      (after (step { starting 0x4000 with ph := .fetch4 })).ph = .fetch4 ∧
      (after (step { starting 0x4000 with ph := .fetch4 })).cmd = false := by decide

/-- 95_test_vectors T-SEQ-C: RESET in WRPIX at row 57. -/
theorem test_reset_busy :
    (after (step { writing 57 3 2 1 0 with resetPin := true })).pos = ⟨.idle, 0, 0, 0, 0, 0⟩ ∧
      (after (step { writing 57 3 2 1 0 with resetPin := true })).pix = none := by decide

/-- 95_test_vectors P5: a core step in IDLE, DONE and FAIL changes nothing. -/
theorem test_waitIdle : after (step State.reset) = State.reset := by decide
theorem test_waitDone : after (step { State.reset with ph := .done }) = { State.reset with ph := .done } := by decide
theorem test_waitFail : after (step { State.reset with ph := .fail }) = { State.reset with ph := .fail } := by decide

/-- 30_encoding R94: the ports' codes in FAIL. -/
theorem test_port_codes :
    (after (exec .chklen (starting 0))).statusPort = 3 ∧ (after (exec .chklen (starting 0))).errPort = 1 := by decide

/-- The canonical form: the addresses stay rising and a second write replaces the first. -/
theorem test_memory_write : (Memory.write [(1, 5), (4, 6)] 3 7).write 4 8 = [(1, 5), (3, 7), (4, 8)] := by decide

/-! ### The big step -/

/-- 95_test_vectors P6: indices 133 to 139 of row 191, 9 at the last. -/
theorem test_cidx_P6 :
    (List.range 7).map (fun j => cidxAt (fun a => BitVec.ofNat 8 (13 * a + a / 256)) 191 (133 + j)) =
      [11, 9, 7, 9, 5, 2, 9] := by decide

/-- 44_sequencer_and_commands R194: "before `DECODE`" the host "may do anything to RASTER"; what it wrote it reads back, the
byte beside it stays unspecified (10_state R37), and RESET makes both so again. -/
theorem test_host_writes_raster :
    (State.reset.hostWriteRaster 7 0x5A).map (fun t => (t.rasterView 7, t.rasterView 8)) =
        some (.byte 0x5A, .unspecified) ∧
      (State.reset.hostWriteRaster 7 0x5A).map (fun t => (after (exec .reset t)).rasterView 7) = some .unspecified := by
  decide

/-- 70_reset_and_hazards R235: no host write once DECODE is issued. -/
theorem test_host_barred_after_decode :
    State.reset.hostDecode.hostPlace [1] = none ∧ State.reset.hostDecode.hostWriteRaster 7 0x5A = none := by decide

/-! ### Witnesses: states and operands that meet the obligations' hypotheses -/

/-- The state of a phase that needs latches, as the invariant wants them. -/
def inPhase (p : Phase) : State := State.reset.enterPhase p 0

theorem inPhase_inv (p : Phase) (h : p ≠ .fail) : (inPhase p).SequencerInv := by
  cases p <;> first
    | exact absurd rfl h
    | (constructor <;> simp [inPhase, State.enterPhase, State.reset, fillLatch, needsBase, needsGroup, needsPidx, needsCidx,
        State.srcFun, State.groupOffset, State.patternHere, patternAt, groupPattern, colOf, auxAddr, mainAddr, Nat.add_assoc])

theorem witness_StepRunsSelectedOperation :
    ({ State.reset with resetPin := true } : State).resetPin = true ∧
      (starting 0).resetPin = false ∧ (starting 0).cmd = true ∧
      State.reset.portsIdle ∧ decode .uop State.reset.opWord = .ok .waitIdle :=
  ⟨rfl, rfl, rfl, ⟨rfl, rfl⟩, by decide⟩

theorem witness_PhaseSelectsOperation : State.reset.portsIdle := ⟨rfl, rfl⟩

theorem witness_BaseOffsetFields : (191 : Nat) < 192 ∧ (39 : Nat) ≤ 39 := by decide

theorem witness_RowsDoNotOverlap :
    (191 : Nat) < 192 ∧ (39 : Nat) ≤ 39 ∧ baseOffset 191 + 39 = baseOffset 191 + 39 ∧ (0x1FFF : Nat) < 0x2000 := by decide

/-- FETCH4 in range, at the last address that passes. -/
theorem witness_Fetch4LoadsGroup :
    ∃ (s : State) (b : BitVec 13), s.base = some b ∧ b.toNat + 2 * s.grp.val + 1 < 0x2000 ∧
      b.toNat + 2 * s.grp.val + 1 = 0x1FFF :=
  ⟨{ State.reset with base := some 0x1FD8, grp := 19 }, 0x1FD8, by decide⟩

/-- FETCH4 out of range, at the first address that fails. -/
theorem witness_Fetch4RaisesOutOfRange :
    ∃ (s : State) (b : BitVec 13), s.base = some b ∧ 0x2000 ≤ b.toNat + 2 * s.grp.val + 1 ∧
      b.toNat + 2 * s.grp.val + 1 = 0x2000 :=
  ⟨{ State.reset with base := some 0x1FD9, grp := 19 }, 0x1FD9, by decide⟩

theorem witness_SlicesCutTheirFields :
    latched.aux0 = some 0x35 ∧ latched.aux1 = some 0x4D ∧ latched.main0 = some 0x6B ∧ latched.main1 = some 0x72 := by
  decide

theorem witness_Rev4WritesColourIndex : ({ State.reset with pidx := some 15 } : State).pidx = some 15 := rfl

theorem witness_PallookReadsPalette :
    ({ State.reset with cidx := some 0 } : State).cidx = some 0 ∧ ({ State.reset with cidx := some 15 } : State).cidx = some 15 :=
  ⟨rfl, rfl⟩

theorem witness_WrpixStoresPixel : (writing 191 19 6 1 3).pix = some ⟨1, 2, 3⟩ := rfl

/-- One position for each of the six ways ADVANCE goes. -/
theorem witness_WrpixAdvances :
    (writing 0 0 0 0 2).hrep.val < 3 ∧
      ((writing 0 0 0 0 3).hrep.val = 3 ∧ (writing 0 0 0 0 3).vrep.val = 0) ∧
      ((writing 0 0 5 1 3).hrep.val = 3 ∧ (writing 0 0 5 1 3).pat.val < 6) ∧
      ((writing 0 18 6 1 3).pat.val = 6 ∧ (writing 0 18 6 1 3).grp.val < 19) ∧
      ((writing 190 19 6 1 3).grp.val = 19 ∧ (writing 190 19 6 1 3).row.val < 191) ∧
      (writing 191 19 6 1 3).row.val = 191 := by decide

theorem witness_EveryPixelHasOnePosition : (215039 : Nat) < 215040 ∧ writeAddr ⟨.wrpix, 191, 19, 6, 1, 3⟩ = 3 * 215039 := by
  decide

theorem witness_DecodeAccepted :
    State.reset.status ≠ .busy ∧ ({ State.reset with ph := .done } : State).status ≠ .busy ∧
      ({ State.reset with ph := .fail } : State).status ≠ .busy := by decide

theorem witness_DecodeIgnoredWhileBusy : (writing 0 0 0 0 0).status = .busy := by decide

theorem witness_HostEventsAreTakenOnce : State.reset.cmd = false ∧ State.reset.resetPin = false := by decide

theorem witness_ChklenChecksLength : 0x4000 ≤ (starting 0x4000).srcLen ∧ (starting 0x3FFF).srcLen < 0x4000 := by decide

theorem witness_WaitChangesNothing :
    State.reset.ph = .idle ∧ ({ State.reset with ph := .done } : State).ph = .done ∧
      ({ State.reset with ph := .fail } : State).ph = .fail ∧ State.reset.portsIdle :=
  ⟨rfl, rfl, rfl, rfl, rfl⟩

/-- Each operation of the chain, on a state that it completes on. -/
theorem witness_ChainKeepsCounters :
    (∃ t, exec .amlook sampleState = .next t) ∧ (∃ t, exec .fetch4 sampleState = .next t) ∧
      (∃ t, exec .fetch4 { sampleState with base := some 0x1FFF } = .next t) ∧
      (∃ t, exec .slice0 latched = .next t) ∧ (∃ t, exec .slice6 latched = .next t) ∧
      (∃ t, exec .rev4 { State.reset with pidx := some 1 } = .next t) ∧
      (∃ t, exec .pallook { State.reset with cidx := some 1 } = .next t) ∧
      (∃ t, exec .wrpix (writing 0 0 0 0 0) = .next t) :=
  ⟨⟨_, rfl⟩, ⟨_, rfl⟩, ⟨_, rfl⟩, ⟨_, rfl⟩, ⟨_, rfl⟩, ⟨_, rfl⟩, ⟨_, rfl⟩, ⟨_, rfl⟩⟩

theorem witness_OnlyItsWritersChangeARegister :
    (∃ t, exec .wrpix (writing 0 0 0 0 3) = .next t) ∧ Instr.wrpix ≠ .decode ∧ Instr.wrpix ≠ .reset :=
  ⟨⟨_, rfl⟩, by decide, by decide⟩

theorem witness_OnlyWrpixWritesMemory : ∃ t, exec .fetch4 sampleState = .next t := ⟨_, rfl⟩

theorem witness_WhoReadsTheHostsData :
    (∃ t, exec .amlook sampleState = .next t) ∧ Instr.amlook ≠ .chklen ∧ Instr.amlook ≠ .fetch4 :=
  ⟨⟨_, rfl⟩, by decide, by decide⟩

theorem witness_ErrorsHaveOneRaiser :
    (∃ t, exec .chklen { starting 0x3FFF with ph := .chklen } = .next t ∧ t.ph = .fail) ∧
      ∃ t, exec .fetch4 { sampleState with base := some 0x1FFF } = .next t ∧ t.ph = .fail :=
  ⟨⟨_, rfl, rfl⟩, ⟨_, rfl, rfl⟩⟩

theorem witness_ReadingNoValueFaults :
    State.reset.base = none ∧ State.reset.aux0 = none ∧ State.reset.aux1 = none ∧ State.reset.main0 = none ∧
      State.reset.main1 = none ∧ State.reset.pidx = none ∧ State.reset.cidx = none ∧ State.reset.pix = none := by decide

theorem witness_SaturatedLengthChecksAlike : (15 : Nat) ≤ 15 ∧ saturateLen 15 0x3FFF < 0x4000 ∧ ¬ saturateLen 15 0x4000 < 0x4000 := by
  decide

/-- The memory invariant, where nothing is listed. -/
theorem memoryInv_of_empty {s : State} (hs : s.src = []) (hr : s.raster = []) (ht : s.rasterTrust = .only []) :
    s.MemoryInv := by
  constructor <;> simp [hs, hr, ht, Memory.below, RasterTrust.wf]

/-- A host that may place a buffer of exactly 0x4000 bytes, the last of them at address 0x3FFF; one that may not, while
BUSY; and one that may not, with its command issued. -/
theorem witness_HostPlacesBuffer :
    State.reset.status ≠ .busy ∧ State.reset.cmd = false ∧ (starting 0x4000).cmd = true ∧ (0x3FFF : Nat) < 0x4000 ∧ (List.replicate 0x4000 (7 : Byte))[0x3FFF]? = some 7 ∧
      (writing 0 0 0 0 0).status = .busy ∧ State.reset.MemoryInv ∧ State.reset.SequencerInv :=
  ⟨by decide, rfl, rfl, by decide, by rw [List.getElem?_replicate]; rfl, by decide, memoryInv_of_empty rfl rfl rfl,
    inPhase_inv .idle (by decide)⟩

/-- A host that may write the last byte of RASTER; and one that may not, for each of the three reasons. -/
theorem witness_HostWritesRaster :
    State.reset.status ≠ .busy ∧ State.reset.cmd = false ∧ (645119 : Nat) < 645120 ∧
      (writing 0 0 0 0 0).status = .busy ∧ (starting 0x4000).cmd = true ∧ (645120 : Nat) ≤ 645120 ∧
      State.reset.MemoryInv ∧ State.reset.SequencerInv :=
  ⟨by decide, rfl, by decide, by decide, rfl, le_refl _, memoryInv_of_empty rfl rfl rfl, inPhase_inv .idle (by decide)⟩

theorem witness_StepKeepsMemoryInv :
    ∃ s t, s.MemoryInv ∧ step s = .next t ∧ s.ph = .wrpix :=
  ⟨writing 191 19 6 1 3, _, memoryInv_of_empty rfl rfl rfl, rfl, rfl⟩

theorem witness_StepKeepsSequencerInv : ∃ s t, s.SequencerInv ∧ step s = .next t ∧ s.ph = .wrpix :=
  ⟨inPhase .wrpix, _, inPhase_inv _ (by decide), rfl, rfl⟩

theorem witness_InvariantStatesStepOn : (inPhase .fetch4).SequencerInv := inPhase_inv _ (by decide)

theorem witness_OutOfRangeUnreachable :
    (inPhase .fetch4).SequencerInv ∧ (inPhase .fetch4).ph = .fetch4 ∧ (inPhase .fetch4).err ≠ .outOfRangeAccess ∧
      ∃ t, step (inPhase .fetch4) = .next t :=
  ⟨inPhase_inv _ (by decide), rfl, by decide, _, rfl⟩

theorem witness_FailIsLeftByDecodeOrReset :
    ({ State.reset with ph := .fail } : State).ph = .fail ∧
      ({ State.reset with ph := .fail, cmd := true } : State).ph = .fail ∧
      ({ State.reset with ph := .fail, resetPin := true } : State).ph = .fail := by decide

/-- BUSY ended in each of the four ways. -/
theorem witness_WhatEndsBusy :
    ((writing 0 0 0 0 0).status = .busy ∧
      ∃ t, step { writing 0 0 0 0 0 with resetPin := true } = .next t ∧ t.status ≠ .busy) ∧
    (∃ t, step (writing 191 19 6 1 3) = .next t ∧ t.status ≠ .busy) ∧
    (∃ t, step { State.reset with ph := .chklen, srcLen := 0x3FFF } = .next t ∧ t.status ≠ .busy) ∧
    (∃ t, step { State.reset with ph := .fetch4, base := some 0x1FFF } = .next t ∧ t.status ≠ .busy) :=
  ⟨⟨by decide, _, rfl, by decide⟩, ⟨_, rfl, by decide⟩, ⟨_, rfl, by decide⟩, ⟨_, rfl, by decide⟩⟩

theorem witness_EmitWritesEightCopies :
    (inPhase .slice).SequencerInv ∧ (inPhase .slice).portsIdle ∧ (inPhase .slice).ph = .slice :=
  ⟨inPhase_inv _ (by decide), ⟨rfl, rfl⟩, rfl⟩

/-- TransactionTrace, RasterEquation, ReplicationAndClosedColours and HostSeesRasterAtDone. -/
theorem witness_successful_transaction : (starting 0x4000).StartsTransaction ∧ 0x4000 ≤ (starting 0x4000).srcLen :=
  ⟨⟨by decide, rfl, rfl⟩, by decide⟩

theorem witness_HostSeesRasterAtDone : (writing 0 0 0 0 0).status = .busy ∧ (645119 : Nat) < 645120 := by decide

/-- Both results of `decode`, at the boundary. -/
theorem witness_SmallStepMeetsBigStep :
    (starting 0x3FFF).StartsTransaction ∧
      bigDecode palRom (starting 0x3FFF).srcFun (starting 0x3FFF).srcLen = .failure .invalidInputLength ∧
      (starting 0x4000).StartsTransaction ∧
      ∃ out, bigDecode palRom (starting 0x4000).srcFun (starting 0x4000).srcLen = .success out :=
  ⟨⟨by decide, rfl, rfl⟩, if_pos (by decide), ⟨by decide, rfl, rfl⟩, _, if_neg (by decide)⟩

theorem witness_EveryTransactionEnds :
    (inPhase .fetch4).SequencerInv ∧ (inPhase .fetch4).portsIdle ∧ (inPhase .fetch4).status = .busy :=
  ⟨inPhase_inv _ (by decide), ⟨rfl, rfl⟩, by decide⟩

/-- Two different states with equal sources. -/
theorem witness_DecodingIsPure :
    ∃ s₁ s₂ : State, s₁.StartsTransaction ∧ s₂.StartsTransaction ∧ 0x4000 ≤ s₁.srcLen ∧ 0x4000 ≤ s₂.srcLen ∧
      (∀ a, a < 0x4000 → s₁.srcFun a = s₂.srcFun a) ∧ s₁.pix ≠ s₂.pix ∧ s₁.raster ≠ s₂.raster :=
  ⟨starting 0x4000, { starting 0x4001 with ph := .done, pix := some ⟨1, 2, 3⟩, raster := [(0, 9)] },
    ⟨by decide, rfl, rfl⟩, ⟨by decide, rfl, rfl⟩, by decide, by decide, fun _ _ => rfl, by decide, by decide⟩

/-- Two sources that differ in bit 7 of every byte. -/
theorem witness_IgnoredBitsDoNotMatter :
    ∃ src₁ src₂ : Nat → Byte, src₁ 0 ≠ src₂ 0 ∧
      ∀ a, a < 0x4000 → a % 128 < 120 → (src₁ a).extractLsb' 0 7 = (src₂ a).extractLsb' 0 7 :=
  ⟨fun _ => 0x80, fun _ => 0, by decide,
    fun _ _ _ => (by decide : (0x80 : Byte).extractLsb' 0 7 = (0 : Byte).extractLsb' 0 7)⟩

theorem witness_BigDecodeBytes : (0x3FFF : Nat) < 0x4000 ∧ (0x4000 : Nat) ≤ 0x4000 ∧ (383 : Nat) < 384 ∧ (559 : Nat) < 560 := by
  decide

/-- A list that leaves no site out. -/
theorem witness_OrderDoesNotMatter : ∃ l : List Site, ∀ q : Site, q ∈ l :=
  ⟨(List.finRange 192).flatMap fun r => (List.finRange 20).flatMap fun g => (List.finRange 7).flatMap fun i =>
      (List.finRange 2).flatMap fun v => (List.finRange 4).map fun h => ⟨r, g, i, v, h⟩,
    fun ⟨r, g, i, v, h⟩ => by simp⟩

theorem witness_WrpixPaintsItsSite : (inPhase .wrpix).SequencerInv ∧ (inPhase .wrpix).ph = .wrpix :=
  ⟨inPhase_inv _ (by decide), rfl⟩

end Sys2Proof.Tests
end

section
/-! PROOFS, layer 1: rules about the model's shared operations that the statements of 10_state need. -/

namespace Sys2Proof.Machine

/-! ### What a move of the sequencer, a group's fetch and an accepted DECODE leave unchanged -/

section
variable (s : State)

@[simp] theorem State.moveTo_base (p : Position) : (s.moveTo p).base = s.base := rfl
@[simp] theorem State.moveTo_aux0 (p : Position) : (s.moveTo p).aux0 = s.aux0 := rfl
@[simp] theorem State.moveTo_aux1 (p : Position) : (s.moveTo p).aux1 = s.aux1 := rfl
@[simp] theorem State.moveTo_main0 (p : Position) : (s.moveTo p).main0 = s.main0 := rfl
@[simp] theorem State.moveTo_main1 (p : Position) : (s.moveTo p).main1 = s.main1 := rfl
@[simp] theorem State.moveTo_pidx (p : Position) : (s.moveTo p).pidx = s.pidx := rfl
@[simp] theorem State.moveTo_cidx (p : Position) : (s.moveTo p).cidx = s.cidx := rfl
@[simp] theorem State.moveTo_pix (p : Position) : (s.moveTo p).pix = s.pix := rfl
@[simp] theorem State.moveTo_err (p : Position) : (s.moveTo p).err = s.err := rfl
@[simp] theorem State.moveTo_resetPin (p : Position) : (s.moveTo p).resetPin = s.resetPin := rfl
@[simp] theorem State.moveTo_cmd (p : Position) : (s.moveTo p).cmd = s.cmd := rfl
@[simp] theorem State.moveTo_srcLen (p : Position) : (s.moveTo p).srcLen = s.srcLen := rfl

/-- FETCH4's reads as the write of the four byte latches, so that the rules of `State.setGroup` apply. -/
@[simp] theorem State.fetchGroup_eq_setGroup (x : Nat) : s.fetchGroup x =
    s.setGroup (s.srcFun x) (s.srcFun (x + 1)) (s.srcFun (0x2000 + x)) (s.srcFun (0x2000 + x + 1)) := rfl

end

/-! ### Reading a latch that holds no value -/

theorem withLatch_eq_fault {α : Type} {n : LatchName} {latch : Option α} {go : α → Result} (h : latch = none) :
    withLatch n latch go = .fault (.latchHoldsNoValue n) := by
  rw [h, withLatch_none]

/-- An operation that reads two latches faults by the name of the first that holds no value. -/
theorem withLatch_withLatch_eq_fault {α β : Type} {n m : LatchName} {first : Option α} {second : Option β}
    {go : α → β → Result} (h : first = none ∨ second = none) :
    ∃ l, withLatch n first (fun v => withLatch m second (go v)) = .fault (.latchHoldsNoValue l) ∧
      ((l = n ∧ first = none) ∨ (l = m ∧ second = none)) := by
  cases first with
  | none => exact ⟨n, withLatch_none n _, .inl ⟨rfl, rfl⟩⟩
  | some v =>
    have hm : second = none := h.resolve_left (Option.some_ne_none v)
    exact ⟨m, withLatch_eq_fault hm, .inr ⟨rfl, hm⟩⟩

/-! ### The base offset ROM -/

/-- Each of the three blocks of 64 rows in which the table is printed. -/
theorem baseRom_block_toNat (k : Fin 3) :
    ∀ i : Fin 64, (baseRom ⟨64 * k.val + i.val, by omega⟩).toNat = baseOffset (64 * k.val + i.val) := by
  fin_cases k <;> decide

/-- 40_address_mapper R110: the printed table holds the formula's values. -/
theorem baseRom_toNat (r : Fin 192) : (baseRom r).toNat = baseOffset r.val := by
  simpa only [Nat.div_add_mod] using
    baseRom_block_toNat ⟨r.val / 64, by omega⟩ ⟨r.val % 64, Nat.mod_lt _ (by decide)⟩

/-! ### What the host sees of RASTER -/

theorem State.rasterView_of_not_covers {s : State} {a : Nat} (ha : a < 645120) (h : s.rasterTrust.covers a = false) :
    s.rasterView a = .unspecified := by
  rw [State.rasterView, if_neg (by omega), if_pos (.inr h)]

end Sys2Proof.Machine
end

section
/-! PROOFS, layer 2: everything an operation can do, said once (44_sequencer_and_commands R179). -/

namespace Sys2Proof.Machine

/-- The next states of each operation, written with the model's named updates. What a slice writes into PIDX is left open
here: `exec_sliceOp` says it. -/
inductive Effect : Instr → State → State → Prop
  | decodeIgnored {s : State} (busy : s.status = .busy) : Effect .decode s (s.setPorts s.resetPin false)
  | decodeAccepted {s : State} (free : s.status ≠ .busy) : Effect .decode s (s.accept.setPorts s.resetPin false)
  | reset {s : State} : Effect .reset s
      (((s.clearCore.setPh .idle).setPorts false (s.cmd && Config.cmdSurvivesReset)).setRasterTrust (.only []))
  | lengthAccepted {s : State} (len : 0x4000 ≤ s.srcLen) : Effect .chklen s (s.setPh .amlook)
  | lengthRejected {s : State} (len : s.srcLen < 0x4000) :
      Effect .chklen s (((s.setErr .invalidInputLength).setPh .fail).setRasterTrust s.rasterTrust)
  | amlook {s : State} : Effect .amlook s ((s.setBase (baseRom s.row)).setPh .fetch4)
  | groupFetched {s : State} {b : BitVec 13} (base : s.base = some b) (range : b.toNat + colOf s.grp.val + 1 < 0x2000) :
      Effect .fetch4 s ((s.fetchGroup (b.toNat + colOf s.grp.val)).setPh .slice)
  | groupOutOfRange {s : State} {b : BitVec 13} (base : s.base = some b)
      (range : b.toNat + colOf s.grp.val + 1 ≥ 0x2000) :
      Effect .fetch4 s (((s.setErr .outOfRangeAccess).setPh .fail).setRasterTrust (.only []))
  | slice {s : State} {i : Instr} (op : i ∈ [Instr.slice0, .slice1, .slice2, .slice3, .slice4, .slice5, .slice6])
      (p : Index) : Effect i s ((s.setPidx p).setPh .rev4)
  | rev4 {s : State} {p : Index} (pidx : s.pidx = some p) : Effect .rev4 s ((s.setCidx (rev4 p)).setPh .pallook)
  | pallook {s : State} {c : Index} (cidx : s.cidx = some c) : Effect .pallook s ((s.setPix (palRom c)).setPh .wrpix)
  | wrpix {s : State} {p : Pixel} (pix : s.pix = some p) :
      Effect .wrpix s ((s.setRaster (s.raster.writePixel (writeAddr s.pos) p)).moveTo (advance s.pos))
  | wait {s : State} {i : Instr} (op : i ∈ [Instr.waitIdle, .waitDone, .waitFail]) : Effect i s s

theorem effect_decode {s t : State} (h : execDecode s = .next t) : Effect .decode s t := by
  obtain ⟨busy, e⟩ | ⟨free, e⟩ := execDecode_cases s <;> obtain rfl := Host.Outcome.next.inj (e.symm.trans h)
  · exact .decodeIgnored busy
  · exact .decodeAccepted free

theorem effect_chklen {s t : State} (h : execChklen s = .next t) : Effect .chklen s t := by
  obtain ⟨len, e⟩ | ⟨len, e⟩ := execChklen_cases s <;> obtain rfl := Host.Outcome.next.inj (e.symm.trans h)
  · exact .lengthRejected len
  · exact .lengthAccepted len

theorem effect_fetch4 {s t : State} (h : execFetch4 s = .next t) : Effect .fetch4 s t := by
  obtain ⟨b, base, ⟨range, h⟩ | ⟨range, rfl⟩⟩ := execFetch4_eq_next h
  · obtain rfl := raiseError_eq_next h
    exact .groupOutOfRange base range
  · exact .groupFetched base range

theorem effect_slice {i : Instr} (op : i ∈ [Instr.slice0, .slice1, .slice2, .slice3, .slice4, .slice5, .slice6])
    {s t : State} (h : exec i s = .next t) : Effect i s t := by
  obtain ⟨p, rfl⟩ := execSlice_eq_next op h
  exact .slice op p

theorem effect_wait {i : Instr} (op : i ∈ [Instr.waitIdle, .waitDone, .waitFail]) {s t : State}
    (h : Host.Outcome.next s = (.next t : Result)) : Effect i s t := by
  obtain rfl := Host.Outcome.next.inj h
  exact .wait op

/-- Every next state of every operation is one of the effects above. -/
theorem exec_eq_next {i : Instr} {s t : State} (h : exec i s = .next t) : Effect i s t := by
  cases i with
  | decode => exact effect_decode h
  | reset =>
    obtain rfl := Host.Outcome.next.inj h
    exact .reset
  | chklen => exact effect_chklen h
  | amlook =>
    obtain rfl := Host.Outcome.next.inj h
    exact .amlook
  | fetch4 => exact effect_fetch4 h
  | slice0 | slice1 | slice2 | slice3 | slice4 | slice5 | slice6 => exact effect_slice (by decide) h
  | rev4 =>
    obtain ⟨p, pidx, rfl⟩ := execRev4_eq_next h
    exact .rev4 pidx
  | pallook =>
    obtain ⟨c, cidx, rfl⟩ := execPallook_eq_next h
    exact .pallook cidx
  | wrpix =>
    obtain ⟨p, pix, rfl⟩ := execWrpix_eq_next h
    exact .wrpix pix
  | waitIdle | waitDone | waitFail => exact effect_wait (by decide) h

end Sys2Proof.Machine
end

section
/-! PROOFS, layer 3: the sequencer invariant (10_state R32, R38, R39), one lemma for each way a step moves it. -/

namespace Sys2Proof.Machine

variable {s : State}

/-! ### What the invariant does not depend on -/

/-- The invariant speaks of the phase, the counters, the latches, ERR and SRC, and of no port, RASTER or record of it. -/
theorem State.SequencerInv.ofHostFields (h : s.SequencerInv) (r c : Bool) (n : Nat) (m : Memory) (u : RasterTrust) :
    ({ s with resetPin := r, cmd := c, srcLen := n, raster := m, rasterTrust := u } : State).SequencerInv :=
  ⟨h.baseLatch, h.groupLatches, h.pidxLatch, h.cidxLatch, h.pixLatch, h.copies, h.patStart, h.grpStart, h.rowStart,
    h.noValue, h.errFail⟩

theorem State.SequencerInv.setPorts (h : s.SequencerInv) (r c : Bool) : (s.setPorts r c).SequencerInv :=
  h.ofHostFields r c s.srcLen s.raster s.rasterTrust

theorem State.SequencerInv.setRasterTrust (h : s.SequencerInv) (u : RasterTrust) : (s.setRasterTrust u).SequencerInv :=
  h.ofHostFields s.resetPin s.cmd s.srcLen s.raster u

theorem State.SequencerInv.err_eq_noError (h : s.SequencerInv) (hp : s.ph ≠ .fail) : s.err = .noError := by
  by_contra he
  exact hp (h.errFail.1 he)

/-! ### The starts: RESET and an accepted DECODE, from any state -/

theorem State.sequencerInv_clearCore (s : State) {p : Phase} (hp : p = .idle ∨ p = .chklen) :
    (s.clearCore.setPh p).SequencerInv := by
  rcases hp with rfl | rfl <;> constructor <;> simp

/-! ### The end in FAIL -/

theorem State.SequencerInv.raise (h : s.SequencerInv) (hp : s.ph ≠ .wrpix) {e : ErrorCode} (he : e ≠ .noError) :
    ((s.setErr e).setPh .fail).SequencerInv := by
  constructor
  case copies => exact fun _ => h.copies hp
  case errFail => simp [he]
  all_goals simp

/-! ### The chain inside one colour index (44_sequencer_and_commands R182)

Each operation writes the one latch that the next phase adds to what R38 asks for; the clauses that do not speak of the next
phase, and the one on ERR, are left to `simp`. -/

theorem State.SequencerInv.chklen_amlook (h : s.SequencerInv) (hp : s.ph = .chklen) : (s.setPh .amlook).SequencerInv := by
  constructor
  case copies => exact fun _ => h.copies (by simp [hp])
  case patStart => exact fun _ => h.patStart (by simp [hp])
  case grpStart => exact fun _ => h.grpStart (by simp [hp])
  all_goals simp [h.err_eq_noError, hp]

theorem State.SequencerInv.amlook_fetch4 (h : s.SequencerInv) (hp : s.ph = .amlook) :
    ((s.setBase (baseRom s.row)).setPh .fetch4).SequencerInv := by
  constructor
  case baseLatch => exact fun _ => rfl
  case copies => exact fun _ => h.copies (by simp [hp])
  case patStart => exact fun _ => h.patStart (by simp [hp])
  all_goals simp [h.err_eq_noError, hp]

theorem State.SequencerInv.fetch4_slice (h : s.SequencerInv) (hp : s.ph = .fetch4) :
    ((s.fetchGroup s.groupOffset).setPh .slice).SequencerInv := by
  constructor
  case baseLatch => exact fun _ => h.baseLatch (by simp [hp])
  case groupLatches => exact fun _ => ⟨rfl, rfl, rfl, rfl⟩
  case copies => exact fun _ => h.copies (by simp [hp])
  all_goals simp [h.err_eq_noError, hp]

theorem State.SequencerInv.slice_rev4 (h : s.SequencerInv) (hp : s.ph = .slice) :
    ((s.setPidx s.patternHere).setPh .rev4).SequencerInv := by
  constructor
  case baseLatch => exact fun _ => h.baseLatch (by simp [hp])
  case groupLatches => exact fun _ => h.groupLatches (by simp [hp])
  case pidxLatch => exact fun _ => rfl
  case copies => exact fun _ => h.copies (by simp [hp])
  all_goals simp [h.err_eq_noError, hp]

theorem State.SequencerInv.rev4_pallook (h : s.SequencerInv) (hp : s.ph = .rev4) :
    ((s.setCidx (Machine.rev4 s.patternHere)).setPh .pallook).SequencerInv := by
  constructor
  case baseLatch => exact fun _ => h.baseLatch (by simp [hp])
  case groupLatches => exact fun _ => h.groupLatches (by simp [hp])
  case pidxLatch => exact fun _ => h.pidxLatch (by simp [hp])
  case cidxLatch => exact fun _ => rfl
  case copies => exact fun _ => h.copies (by simp [hp])
  all_goals simp [h.err_eq_noError, hp]

theorem State.SequencerInv.pallook_wrpix (h : s.SequencerInv) (hp : s.ph = .pallook) :
    ((s.setPix (palRom (Machine.rev4 s.patternHere))).setPh .wrpix).SequencerInv := by
  constructor
  case baseLatch => exact fun _ => h.baseLatch (by simp [hp])
  case groupLatches => exact fun _ => h.groupLatches (by simp [hp])
  case pidxLatch => exact fun _ => h.pidxLatch (by simp [hp])
  case cidxLatch => exact fun _ => h.cidxLatch (by simp [hp])
  case pixLatch => exact fun _ => rfl
  all_goals simp [h.err_eq_noError, hp]

/-! ### ADVANCE (44_sequencer_and_commands R183): five phases to go on in, and what each still finds in the latches -/

/-- The next copy of the same pixel. -/
theorem State.SequencerInv.wrpix_wrpix (h : s.SequencerInv) (hp : s.ph = .wrpix) (v : Fin 2) (c : Fin 4) :
    (s.setPos { s.pos with vrep := v, hrep := c, ph := .wrpix }).SequencerInv := by
  constructor
  case baseLatch => exact fun _ => h.baseLatch (by simp [hp])
  case groupLatches => exact fun _ => h.groupLatches (by simp [hp])
  case pidxLatch => exact fun _ => h.pidxLatch (by simp [hp])
  case cidxLatch => exact fun _ => h.cidxLatch (by simp [hp])
  case pixLatch => exact fun _ => h.pixLatch hp
  all_goals simp [h.err_eq_noError, hp]

/-- The next pattern of the same group. -/
theorem State.SequencerInv.wrpix_slice (h : s.SequencerInv) (hp : s.ph = .wrpix) (i : Fin 7) :
    (s.setPos { s.pos with hrep := 0, vrep := 0, pat := i, ph := .slice }).SequencerInv := by
  constructor
  case baseLatch => exact fun _ => h.baseLatch (by simp [hp])
  case groupLatches => exact fun _ => h.groupLatches (by simp [hp])
  all_goals simp [h.err_eq_noError, hp]

/-- The next group of the same row. -/
theorem State.SequencerInv.wrpix_fetch4 (h : s.SequencerInv) (hp : s.ph = .wrpix) (g : Fin 20) :
    (s.setPos { s.pos with hrep := 0, vrep := 0, pat := 0, grp := g, ph := .fetch4 }).SequencerInv := by
  constructor
  case baseLatch => exact fun _ => h.baseLatch (by simp [hp])
  all_goals simp [h.err_eq_noError, hp]

/-- The next row, or FINISH: no latch is read any more, and the counters stand at their start. -/
theorem State.SequencerInv.wrpix_newRow (h : s.SequencerInv) (hp : s.ph = .wrpix) {p : Phase} {r : Fin 192}
    (hr : p = .amlook ∨ p = .done ∧ r = 0) :
    (s.setPos { s.pos with hrep := 0, vrep := 0, pat := 0, grp := 0, row := r, ph := p }).SequencerInv := by
  rcases hr with rfl | ⟨rfl, rfl⟩ <;> constructor <;> simp [h.err_eq_noError, hp]

theorem State.SequencerInv.setPos_advance (h : s.SequencerInv) (hp : s.ph = .wrpix) :
    (s.setPos (advance s.pos)).SequencerInv := by
  obtain ⟨_, e⟩ | ⟨_, _, e⟩ | ⟨_, _, _, e⟩ | ⟨_, _, _, _, e⟩ | ⟨_, _, _, _, _, e⟩ | ⟨_, _, _, _, _, e⟩ :=
    advance_cases s.pos <;> rw [e]
  · exact h.wrpix_wrpix hp _ _
  · exact h.wrpix_wrpix hp _ _
  · exact h.wrpix_slice hp _
  · exact h.wrpix_fetch4 hp _
  · exact h.wrpix_newRow hp (.inl rfl)
  · exact h.wrpix_newRow hp (.inr ⟨rfl, rfl⟩)

/-! ### Each operation, in the phase that selects it, keeps the invariant -/

theorem execReset_sequencerInv {t : State} (ht : execReset s = .next t) : t.SequencerInv := by
  obtain rfl := Host.Outcome.next.inj ht
  exact ((s.sequencerInv_clearCore (.inl rfl)).setPorts _ _).setRasterTrust _

theorem execDecode_sequencerInv (h : s.SequencerInv) {t : State} (ht : execDecode s = .next t) : t.SequencerInv := by
  obtain ⟨_, e⟩ | ⟨_, e⟩ := execDecode_cases s <;> obtain rfl := Host.Outcome.next.inj (e.symm.trans ht)
  · exact h.setPorts _ _
  · exact (s.sequencerInv_clearCore (.inr rfl)).setPorts _ _

theorem raiseError_sequencerInv (h : s.SequencerInv) (hp : s.ph ≠ .wrpix) {e : ErrorCode} (he : e ≠ .noError) {t : State}
    (ht : raiseError e s = .next t) : t.SequencerInv := by
  obtain rfl := raiseError_eq_next ht
  exact (h.raise hp he).setRasterTrust _

theorem execChklen_sequencerInv (h : s.SequencerInv) (hp : s.ph = .chklen) {t : State} (ht : execChklen s = .next t) :
    t.SequencerInv := by
  obtain ⟨_, e⟩ | ⟨_, e⟩ := execChklen_cases s <;> rw [e] at ht
  · exact raiseError_sequencerInv h (by simp [hp]) (by decide) ht
  · obtain rfl := Host.Outcome.next.inj ht
    exact h.chklen_amlook hp

theorem execAmlook_sequencerInv (h : s.SequencerInv) (hp : s.ph = .amlook) {t : State} (ht : execAmlook s = .next t) :
    t.SequencerInv := by
  obtain rfl := Host.Outcome.next.inj ht
  exact h.amlook_fetch4 hp

theorem execFetch4_sequencerInv (h : s.SequencerInv) (hp : s.ph = .fetch4) {t : State} (ht : execFetch4 s = .next t) :
    t.SequencerInv := by
  obtain ⟨b, hb, ⟨_, ht⟩ | ⟨_, rfl⟩⟩ := execFetch4_eq_next ht
  · exact raiseError_sequencerInv h (by simp [hp]) (by decide) ht
  · have e : some b = some (baseRom s.row) := hb.symm.trans (h.baseLatch (by simp [hp]))
    have offset : b.toNat + colOf s.grp.val = s.groupOffset := by
      rw [Option.some.inj e, baseRom_toNat]
      rfl
    rw [offset]
    exact h.fetch4_slice hp

theorem exec_sliceOp_sequencerInv (h : s.SequencerInv) (hp : s.ph = .slice) {t : State}
    (ht : exec (sliceOp s.pat) s = .next t) : t.SequencerInv := by
  obtain ⟨h0, h1, h2, h3⟩ := h.groupLatches (by simp [hp])
  rw [exec_sliceOp h0 h1 h2 h3] at ht
  obtain rfl := sliceInto_eq_next ht
  exact h.slice_rev4 hp

theorem execRev4_sequencerInv (h : s.SequencerInv) (hp : s.ph = .rev4) {t : State} (ht : execRev4 s = .next t) :
    t.SequencerInv := by
  obtain ⟨p, hpidx, rfl⟩ := execRev4_eq_next ht
  obtain rfl := Option.some.inj (hpidx.symm.trans (h.pidxLatch (by simp [hp])))
  exact h.rev4_pallook hp

theorem execPallook_sequencerInv (h : s.SequencerInv) (hp : s.ph = .pallook) {t : State} (ht : execPallook s = .next t) :
    t.SequencerInv := by
  obtain ⟨c, hcidx, rfl⟩ := execPallook_eq_next ht
  obtain rfl := Option.some.inj (hcidx.symm.trans (h.cidxLatch (by simp [hp])))
  exact h.pallook_wrpix hp

theorem execWrpix_sequencerInv (h : s.SequencerInv) (hp : s.ph = .wrpix) {t : State} (ht : execWrpix s = .next t) :
    t.SequencerInv := by
  obtain ⟨p, _, rfl⟩ := execWrpix_eq_next ht
  exact (h.setPos_advance hp).ofHostFields _ _ _ _ _

theorem next_sequencerInv (h : s.SequencerInv) {t : State} (ht : (.next s : Result) = .next t) : t.SequencerInv := by
  obtain rfl := Host.Outcome.next.inj ht
  exact h

/-- The micro-operation that the phase selects keeps the invariant. -/
theorem exec_operationOf_sequencerInv (h : s.SequencerInv) {t : State}
    (ht : exec (operationOf s.ph s.pat) s = .next t) : t.SequencerInv := by
  cases hp : s.ph <;> rw [hp] at ht
  case idle | done | fail => exact next_sequencerInv h ht
  case chklen => exact execChklen_sequencerInv h hp ht
  case amlook => exact execAmlook_sequencerInv h hp ht
  case fetch4 => exact execFetch4_sequencerInv h hp ht
  case slice => exact exec_sliceOp_sequencerInv h hp ht
  case rev4 => exact execRev4_sequencerInv h hp ht
  case pallook => exact execPallook_sequencerInv h hp ht
  case wrpix => exact execWrpix_sequencerInv h hp ht

/-- Every step keeps the invariant, whichever of the pin, the command and the phase selects its operation. -/
theorem step_sequencerInv (h : s.SequencerInv) {t : State} (ht : step s = .next t) : t.SequencerInv := by
  cases hr : s.resetPin with
  | true =>
    rw [step_of_fetch (fetch_reset hr)] at ht
    exact execReset_sequencerInv ht
  | false =>
    cases hc : s.cmd with
    | true =>
      rw [step_of_fetch (fetch_decode hr hc)] at ht
      exact execDecode_sequencerInv h ht
    | false =>
      rw [step_of_fetch (fetch_uop hr hc)] at ht
      exact exec_operationOf_sequencerInv h ht

end Sys2Proof.Machine
end

section
/-! PROOFS: the statements of 10_state. -/

namespace Sys2Proof.Machine

/-- Settles O43: the operation that runs is the one its phase selects, so it finds in the latches what R38 says. -/
theorem stepKeepsSequencerInv : Obligations.StepKeepsSequencerInv :=
  fun _ _ h ht => step_sequencerInv h ht

/-- Settles O31, effect by effect: outside the register it writes, an operation's update is the identity. -/
theorem onlyItsWritersChangeARegister : Obligations.OnlyItsWritersChangeARegister := by
  intro i s t h notDecode notReset
  cases exec_eq_next h with
  | decodeIgnored | decodeAccepted => exact absurd rfl notDecode
  | reset => exact absurd rfl notReset
  | slice op => simp [op]
  | lengthAccepted | lengthRejected | amlook | groupFetched | groupOutOfRange | rev4 | pallook | wrpix | wait => simp

/-- Settles O27: the two events' own updates of the ports, and that a host move writes nothing but a port. -/
theorem hostEventsAreTakenOnce : Obligations.HostEventsAreTakenOnce := by
  refine ⟨fun s => ?_, fun s hr => ?_, fun s => ⟨rfl, rfl, rfl, rfl⟩⟩
  · refine ⟨_, step_of_fetch (fetch_reset rfl), rfl, fun hc => ?_⟩
    simp [State.hostReset, hc]
  · rw [step_of_fetch (fetch_decode (s := s.hostDecode) hr rfl)]
    obtain ⟨_, e⟩ | ⟨_, e⟩ := execDecode_cases s.hostDecode
    · exact ⟨_, e, hr, rfl⟩
    · exact ⟨_, e, hr, rfl⟩

/-- Settles O35, by the rules of reading one latch and two. -/
theorem readingNoValueFaults : Obligations.ReadingNoValueFaults := fun _ =>
  ⟨withLatch_eq_fault, withLatch_eq_fault, withLatch_eq_fault, withLatch_eq_fault, withLatch_eq_fault,
    withLatch_withLatch_eq_fault, withLatch_withLatch_eq_fault, withLatch_withLatch_eq_fault,
    withLatch_eq_fault, withLatch_eq_fault, withLatch_eq_fault⟩

/-- Settles O37: a port of at least 15 bits carries `0x7FFF`, and with it every length below `0x4000`. -/
theorem saturatedLengthChecksAlike : Obligations.SaturatedLengthChecksAlike := by
  intro lenw len h
  have carries : 2 ^ 15 ≤ 2 ^ lenw := Nat.pow_le_pow_right (by decide) h
  rw [saturateLen]
  omega

/-- Settles O40: the reset table is the definition's, and after reset the host can rely on no byte of RASTER. -/
theorem resetValues : Obligations.ResetValues :=
  ⟨rfl, rfl, rfl, rfl, rfl, rfl, rfl, rfl, rfl, rfl, rfl, rfl, rfl, rfl, rfl, rfl,
    fun _ ha => State.rasterView_of_not_covers ha (RasterTrust.covers_only_nil _)⟩

theorem reset_memoryInv : State.reset.MemoryInv where
  srcForm := reset_memory_wf.1
  srcRange := by simp [State.reset, Memory.below]
  rasterForm := reset_memory_wf.2
  rasterRange := by simp [State.reset, Memory.below]
  trustForm := RasterTrust.wf_only_nil

/-- The state after reset is what RESET's clearing leaves of it. -/
theorem reset_sequencerInv : State.reset.SequencerInv := State.reset.sequencerInv_clearCore (.inl rfl)

/-- Settles O41. -/
theorem resetMeetsInvariants : Obligations.ResetMeetsInvariants := ⟨reset_memoryInv, reset_sequencerInv⟩

end Sys2Proof.Machine
end

section
/-! PROOFS: RASTER as the sites of the iteration domain cover it, and that their order does not matter (20_memory R68). -/

namespace Sys2Proof.Machine

/-! ### One site's three bytes -/

/-- A pixel's write, read byte by byte: RASTER is a sequence of pixels of three bytes each (20_memory R52, R57). -/
theorem Memory.read_writePixel_number (m : Memory) (k a : Nat) (p : Pixel) :
    (m.writePixel (3 * k) p).read a = if a / 3 = k then some (channel p (a % 3)) else m.read a := by
  rw [Memory.read_writePixel]
  by_cases own : a / 3 = k
  · rw [if_pos own]
    obtain c | c | c : a % 3 = 0 ∨ a % 3 = 1 ∨ a % 3 = 2 := by omega
    · rw [if_pos (by omega), c]
      rfl
    · rw [if_neg (by omega), if_pos (by omega), c]
      rfl
    · rw [if_neg (by omega), if_neg (by omega), if_pos (by omega), c]
      rfl
  · rw [if_neg own, if_neg (by omega), if_neg (by omega), if_neg (by omega)]

/-- The number of a site's pixel (43_rasterizer R162). -/
def Site.pixelNo (q : Site) : Nat :=
  pixelNumber (outputRow q.row.val q.vrep.val) (outputColumn (indexColumn q.grp.val q.pat.val) q.hrep.val)

theorem Site.addr_eq (q : Site) : q.addr = 3 * q.pixelNo := rfl

theorem Site.pixelNo_eq (q : Site) : q.pixelNo =
    560 * (2 * q.row.val + q.vrep.val) + (4 * (7 * q.grp.val + q.pat.val) + q.hrep.val) := rfl

/-- A site's pixel is the one `decode` puts at its output row and column (43_rasterizer R164, R167). -/
theorem Site.pixel_eq_pixelAt (pal : Index → Pixel) (src : Nat → Byte) (q : Site) :
    q.pixel pal src = pixelAt pal src (q.pixelNo / 560) (q.pixelNo % 560) := by
  obtain ⟨r, g, i, v, h⟩ := q
  simp only [Site.pixelNo_eq]
  generalize hn : 560 * (2 * r.val + v.val) + (4 * (7 * g.val + i.val) + h.val) = n
  have row : n / 560 / 2 = r.val := by omega
  have grp : n % 560 / 4 / 7 = g.val := by omega
  have pat : n % 560 / 4 % 7 = i.val := by omega
  simp only [pixelAt, cidxAt, Site.pixel, row, grp, pat]

/-- What a site's write leaves in any byte: `decode`'s byte where the byte belongs to the site, the old one elsewhere. -/
theorem read_writePixel_site (pal : Index → Pixel) (src : Nat → Byte) (m : Memory) (q : Site) (a : Nat) :
    (m.writePixel q.addr (q.pixel pal src)).read a =
      if a / 3 = q.pixelNo then some (outByte pal src a) else m.read a := by
  rw [Site.addr_eq, Memory.read_writePixel_number, Site.pixel_eq_pixelAt]
  split
  · next own => rw [outByte, own]
  · rfl

/-- Every byte of RASTER belongs to a site (43_rasterizer R167). -/
theorem exists_site_of_byte {a : Nat} (ha : a < 645120) : ∃ q : Site, a / 3 = q.pixelNo := by
  refine ⟨⟨⟨a / 3 / 560 / 2, by omega⟩, ⟨a / 3 % 560 / 4 / 7, by omega⟩, ⟨a / 3 % 560 / 4 % 7, by omega⟩,
    ⟨a / 3 / 560 % 2, by omega⟩, ⟨a / 3 % 560 % 4, by omega⟩⟩, ?_⟩
  simp only [Site.pixelNo_eq]
  omega

/-! ### A list of sites -/

theorem paint_append_singleton (pal : Index → Pixel) (src : Nat → Byte) (m : Memory) (l : List Site) (q : Site) :
    paint pal src m (l ++ [q]) = (paint pal src m l).writePixel q.addr (q.pixel pal src) := by
  simp [paint]

/-- A byte that reads as `decode` gives it does so whatever sites are painted after. -/
theorem read_paint_of_read {pal : Index → Pixel} {src : Nat → Byte} {a : Nat} (l : List Site) {m : Memory}
    (h : m.read a = some (outByte pal src a)) : (paint pal src m l).read a = some (outByte pal src a) := by
  induction l generalizing m with
  | nil => exact h
  | cons q l ih =>
    refine ih ?_
    rw [read_writePixel_site, h, ite_self]

/-- A byte whose site is among those painted reads as `decode` gives it. -/
theorem read_paint_of_mem {pal : Index → Pixel} {src : Nat → Byte} {a : Nat} {q : Site} (ha : a / 3 = q.pixelNo)
    {l : List Site} (hq : q ∈ l) (m : Memory) : (paint pal src m l).read a = some (outByte pal src a) := by
  induction l generalizing m with
  | nil => exact absurd hq List.not_mem_nil
  | cons p l ih =>
    rcases List.mem_cons.1 hq with rfl | hq
    · refine read_paint_of_read l ?_
      rw [read_writePixel_site, if_pos ha]
    · exact ih hq _

/-- RASTER after every site has been painted is `decode`'s, whatever it held before. -/
theorem read_paint_of_complete (pal : Index → Pixel) (src : Nat → Byte) (m : Memory) {l : List Site}
    (all : ∀ q : Site, q ∈ l) {a : Nat} (ha : a < 645120) :
    (paint pal src m l).read a = some (outByte pal src a) :=
  have ⟨q, hq⟩ := exists_site_of_byte ha
  read_paint_of_mem hq (all q) m

/-- Settles O59: a byte's own site writes `decode`'s byte, whenever it comes, and every other site leaves it. -/
theorem orderDoesNotMatter : Obligations.OrderDoesNotMatter :=
  fun pal src m _ all _ ha => read_paint_of_complete pal src m all ha

end Sys2Proof.Machine
end

section
/-! PROOFS: what the operations write of the two memories, and what they read of the host's data (20_memory R50, R52, R60,
R65). -/

namespace Sys2Proof.Machine

variable {i : Instr} {s t : State}

/-! ### Memory frames, operation by operation -/

theorem Effect.src_eq (h : Effect i s t) : t.src = s.src := by
  cases h <;> rfl

theorem Effect.srcLen_eq (h : Effect i s t) : t.srcLen = s.srcLen := by
  cases h <;> rfl

theorem Effect.raster_eq (h : Effect i s t) (hi : i ≠ .wrpix) : t.raster = s.raster := by
  cases h
  case wrpix => exact absurd rfl hi
  all_goals rfl

/-- What an operation can leave in RASTER: what was there, or that with one pixel written at the position's address. -/
theorem Effect.raster_cases (h : Effect i s t) :
    t.raster = s.raster ∨ ∃ p, t.raster = s.raster.writePixel (writeAddr s.pos) p := by
  cases h
  case wrpix p _ => exact .inr ⟨p, rfl⟩
  all_goals exact .inl rfl

/-- What an operation can leave in the model's record of RASTER (log entry 5). -/
theorem Effect.rasterTrust_cases (h : Effect i s t) :
    t.rasterTrust = s.rasterTrust ∨ t.rasterTrust = .whole ∨ t.rasterTrust = .only [] := by
  cases h
  case reset | groupOutOfRange => exact .inr (.inr rfl)
  case wrpix =>
    by_cases finish : (advance s.pos).ph = .done
    · exact .inr (.inl (if_pos finish))
    · exact .inl (if_neg finish)
  all_goals exact .inl rfl

/-- The effect of the operation a step selects. -/
theorem step_eq_next (h : step s = .next t) : ∃ i, Effect i s t := by
  obtain ⟨i, hi⟩ := fetch_total s
  rw [step_of_fetch hi] at h
  exact ⟨i, exec_eq_next h⟩

theorem Effect.memoryInv (e : Effect i s t) (h : s.MemoryInv) : t.MemoryInv where
  srcForm := by
    rw [e.src_eq]
    exact h.srcForm
  srcRange := by
    rw [e.src_eq]
    exact h.srcRange
  rasterForm := by
    obtain same | ⟨p, written⟩ := e.raster_cases
    · exact same ▸ h.rasterForm
    · exact written ▸ Memory.wf_writePixel h.rasterForm _ p
  rasterRange := by
    obtain same | ⟨p, written⟩ := e.raster_cases
    · exact same ▸ h.rasterRange
    · exact written ▸ Memory.below_writePixel h.rasterRange (writeAddr_range _) p
  trustForm := by
    obtain same | whole | empty := e.rasterTrust_cases
    · exact same ▸ h.trustForm
    · exact whole ▸ trivial
    · exact empty ▸ RasterTrust.wf_only_nil

/-- Settles O42: SRC is never written, a pixel's write keeps RASTER's form, and its address lies in RASTER. -/
theorem stepKeepsMemoryInv : Obligations.StepKeepsMemoryInv := fun _ _ h ht =>
  have ⟨_, e⟩ := step_eq_next ht
  e.memoryInv h

/-- Settles O32, by the memory frames. -/
theorem onlyWrpixWritesMemory : Obligations.OnlyWrpixWritesMemory := fun _ _ _ h =>
  have e := exec_eq_next h
  ⟨fun a => congrArg (·.read a) e.src_eq, fun hi a => congrArg (·.read a) (e.raster_eq hi)⟩

/-! ### Answers under other host data -/

/-- A result with its next state changed by `f`; a stop stays as it is. -/
def mapNext (f : State → State) : Result → Result
  | .next s => .next (f s)
  | .fault r => .fault r
  | .refused r => .refused r

theorem withLatch_eq_mapNext {α : Type} {n : LatchName} {latch : Option α} {go go' : α → Result} {f : State → State}
    (h : ∀ v, go' v = mapNext f (go v)) : withLatch n latch go' = mapNext f (withLatch n latch go) := by
  cases latch with
  | none => rfl
  | some v => exact h v

theorem ite_eq_mapNext {c : Prop} [Decidable c] {x y x' y' : Result} {f : State → State} (hx : x' = mapNext f x)
    (hy : y' = mapNext f y) : (if c then x' else y') = mapNext f (if c then x else y) := by
  rw [hx, hy, apply_ite (mapNext f)]

/-- With another SRC and SRC_LEN an operation answers as before but for those two, unless it is the one that reads them. -/
theorem exec_setSource (m : Memory) (n : Nat) (len : i = .chklen → n = s.srcLen) (src : i = .fetch4 → m = s.src) :
    exec i (s.setSource m n) = mapNext (·.setSource m n) (exec i s) := by
  cases i with
  | decode => exact ite_eq_mapNext rfl rfl
  | chklen =>
    obtain rfl := len rfl
    exact ite_eq_mapNext rfl rfl
  | fetch4 =>
    obtain rfl := src rfl
    exact withLatch_eq_mapNext fun _ => ite_eq_mapNext rfl rfl
  | slice1 | slice3 | slice5 => exact withLatch_eq_mapNext fun _ => withLatch_eq_mapNext fun _ => rfl
  | slice0 | slice2 | slice4 | slice6 | rev4 | pallook | wrpix => exact withLatch_eq_mapNext fun _ => rfl
  | reset | amlook | waitIdle | waitDone | waitFail => rfl

theorem exec_setSource_eq_next (h : exec i s = .next t) (m : Memory) (n : Nat) (len : i = .chklen → n = s.srcLen)
    (src : i = .fetch4 → m = s.src) : exec i (s.setSource m n) = .next (t.setSource m n) := by
  rw [exec_setSource m n len src, h, mapNext]

/-- With another RASTER an operation other than WRPIX answers as before but for it. -/
theorem exec_setRaster (m : Memory) (hi : i ≠ .wrpix) :
    exec i (s.setRaster m) = mapNext (·.setRaster m) (exec i s) := by
  cases i with
  | decode | chklen => exact ite_eq_mapNext rfl rfl
  | fetch4 => exact withLatch_eq_mapNext fun _ => ite_eq_mapNext rfl rfl
  | wrpix => exact absurd rfl hi
  | slice1 | slice3 | slice5 => exact withLatch_eq_mapNext fun _ => withLatch_eq_mapNext fun _ => rfl
  | slice0 | slice2 | slice4 | slice6 | rev4 | pallook => exact withLatch_eq_mapNext fun _ => rfl
  | reset | amlook | waitIdle | waitDone | waitFail => rfl

/-- No operation reads RASTER: with another one it still has a next state, which differs in RASTER only. -/
theorem exec_setRaster_eq_next (h : exec i s = .next t) (m : Memory) :
    ∃ r, exec i (s.setRaster m) = .next (t.setRaster r) := by
  by_cases hi : i = .wrpix
  · subst hi
    obtain ⟨p, pix, rfl⟩ := execWrpix_eq_next h
    refine ⟨m.writePixel (writeAddr s.pos) p, ?_⟩
    rw [exec, execWrpix, State.setRaster_pix, pix, withLatch_some]
    rfl
  · exact ⟨m, by rw [exec_setRaster m hi, h, mapNext]⟩

/-- Settles O33: the operations that do not read SRC_LEN or SRC answer alike under others, and all do under another RASTER. -/
theorem whoReadsTheHostsData : Obligations.WhoReadsTheHostsData := by
  intro i s t h
  have e := exec_eq_next h
  refine ⟨fun n hi => ?_, fun m hi => ?_, fun m => ?_⟩
  · calc exec i (s.setSource s.src n)
      _ = .next (t.setSource s.src n) := exec_setSource_eq_next h s.src n (absurd · hi) fun _ => rfl
      _ = .next { t with srcLen := n } := by rw [← e.src_eq]; rfl
  · calc exec i (s.setSource m s.srcLen)
      _ = .next (t.setSource m s.srcLen) := exec_setSource_eq_next h m s.srcLen (fun _ => rfl) (absurd · hi)
      _ = .next { t with src := m } := by rw [← e.srcLen_eq]; rfl
  · obtain ⟨r, hr⟩ := exec_setRaster_eq_next h m
    exact ⟨_, hr, rfl⟩

end Sys2Proof.Machine
end

section
/-! PROOFS: a successful transaction step by step (44_sequencer_and_commands R182 to R191): each step brings it one step nearer
to DONE, and each WRPIX paints the next site of the canonical order. -/

namespace Sys2Proof.Machine

/-! ### How far a position is -/

/-- The place of a site in the canonical order (44_sequencer_and_commands R186), from 0. -/
def Site.number (q : Site) : Nat := 1120 * q.row.val + 56 * q.grp.val + 8 * q.pat.val + 4 * q.vrep.val + q.hrep.val

/-- The site whose pixel the counters name. -/
def Position.site (p : Position) : Site := ⟨p.row, p.grp, p.pat, p.vrep, p.hrep⟩

/-- How many sites a transaction has written where it stands at `p`: FINISH sets the counters back (R184). -/
def Position.written (p : Position) : Nat := if p.ph = .done then 215040 else p.site.number

/-- The steps from a phase to the WRPIX it leads to (R179, R182). -/
def stepsToWrite : Phase → Nat
  | .chklen => 6
  | .amlook => 5
  | .fetch4 => 4
  | .slice => 3
  | .rev4 => 2
  | .pallook => 1
  | .wrpix | .idle | .done | .fail => 0

/-- The steps from a position to DONE: those to its WRPIX, the copies left, and what EMIT, GROUP and LINE take for the
patterns, groups and rows left (30_encoding R98). -/
def Position.stepsLeft (p : Position) : Nat :=
  if p.ph = .done then 0
  else stepsToWrite p.ph + (8 - (4 * p.vrep.val + p.hrep.val)) + 11 * (6 - p.pat.val) + 78 * (19 - p.grp.val) +
    1561 * (191 - p.row.val)

theorem Site.number_lt (q : Site) : q.number < 215040 := by
  rw [Site.number]
  omega

theorem Site.number_injective {q q' : Site} (h : q.number = q'.number) : q = q' := by
  obtain ⟨r, g, i, v, c⟩ := q
  obtain ⟨r', g', i', v', c'⟩ := q'
  simp only [Site.number] at h
  simp only [Site.mk.injEq, Fin.ext_iff]
  omega

theorem Position.written_of_done {p : Position} (h : p.ph = .done) : p.written = 215040 := if_pos h

theorem Position.written_of_ne_done {p : Position} (h : p.ph ≠ .done) : p.written = p.site.number := if_neg h

theorem Position.stepsLeft_of_done {p : Position} (h : p.ph = .done) : p.stepsLeft = 0 := if_pos h

theorem Position.stepsLeft_of_ne_done {p : Position} (h : p.ph ≠ .done) : p.stepsLeft =
    stepsToWrite p.ph + (8 - (4 * p.vrep.val + p.hrep.val)) + 11 * (6 - p.pat.val) + 78 * (19 - p.grp.val) +
      1561 * (191 - p.row.val) := if_neg h

theorem Position.ph_eq_done_of_stepsLeft {p : Position} (h : p.stepsLeft = 0) : p.ph = .done := by
  by_contra busy
  rw [Position.stepsLeft_of_ne_done busy] at h
  omega

/-- ADVANCE goes on to a BUSY phase, or ends in DONE (R183). -/
theorem advance_phase (p : Position) : statusOf (advance p).ph = .busy ∨ (advance p).ph = .done := by
  obtain ⟨_, e⟩ | ⟨_, _, e⟩ | ⟨_, _, _, e⟩ | ⟨_, _, _, _, e⟩ | ⟨_, _, _, _, _, e⟩ | ⟨_, _, _, _, _, e⟩ :=
    advance_cases p <;> rw [e]
  case inr.inr.inr.inr.inr => exact .inr rfl
  all_goals exact .inl rfl

theorem advance_written {p : Position} (hp : p.ph = .wrpix) : (advance p).written = p.written + 1 := by
  rw [Position.written_of_ne_done (p := p) (by simp [hp])]
  obtain ⟨_, e⟩ | ⟨_, _, e⟩ | ⟨_, _, _, e⟩ | ⟨_, _, _, _, e⟩ | ⟨_, _, _, _, _, e⟩ | ⟨_, _, _, _, _, e⟩ :=
    advance_cases p <;> simp [e, Position.written, Position.site, Site.number] <;> omega

theorem advance_stepsLeft {p : Position} (hp : p.ph = .wrpix) : (advance p).stepsLeft + 1 = p.stepsLeft := by
  obtain ⟨_, e⟩ | ⟨_, _, e⟩ | ⟨_, _, _, e⟩ | ⟨_, _, _, _, e⟩ | ⟨_, _, _, _, _, e⟩ | ⟨_, _, _, _, _, e⟩ :=
    advance_cases p <;> simp [e, Position.stepsLeft, stepsToWrite, hp] <;> omega

variable {s : State}

/-! ### What each operation answers in a state of the invariant -/

theorem baseOffset_le (r : Fin 192) : baseOffset r.val ≤ 0x1FD0 := by
  rw [baseOffset]
  omega

theorem State.SequencerInv.exec_fetch4 (h : s.SequencerInv) (hp : s.ph = .fetch4) :
    exec .fetch4 s = .next ((s.fetchGroup s.groupOffset).setPh .slice) := by
  have offset : (baseRom s.row).toNat + colOf s.grp.val = s.groupOffset := by
    rw [baseRom_toNat]
    rfl
  have range : s.groupOffset + 1 < 0x2000 := by
    have := baseOffset_le s.row
    rw [State.groupOffset]
    omega
  rw [← offset] at range ⊢
  exact execFetch4_of_inRange (h.baseLatch (by simp [hp])) range

theorem State.SequencerInv.exec_slice (h : s.SequencerInv) (hp : s.ph = .slice) :
    exec (sliceOp s.pat) s = .next ((s.setPidx s.patternHere).setPh .rev4) := by
  obtain ⟨h0, h1, h2, h3⟩ := h.groupLatches (by simp [hp])
  exact exec_sliceOp h0 h1 h2 h3 s.pat

theorem State.SequencerInv.exec_rev4 (h : s.SequencerInv) (hp : s.ph = .rev4) :
    exec .rev4 s = .next ((s.setCidx (Machine.rev4 s.patternHere)).setPh .pallook) := by
  rw [exec, execRev4, h.pidxLatch (by simp [hp]), withLatch_some]

theorem State.SequencerInv.exec_pallook (h : s.SequencerInv) (hp : s.ph = .pallook) :
    exec .pallook s = .next ((s.setPix (palRom (Machine.rev4 s.patternHere))).setPh .wrpix) := by
  rw [exec, execPallook, h.cidxLatch (by simp [hp]), withLatch_some]

/-- WRPIX writes the pixel of its own site, as `paint` does (43_rasterizer R163, R164). -/
theorem State.SequencerInv.exec_wrpix (h : s.SequencerInv) (hp : s.ph = .wrpix) :
    exec .wrpix s = .next ((s.setRaster (s.raster.writePixel s.pos.site.addr (s.pos.site.pixel palRom s.srcFun))).moveTo
      (advance s.pos)) := by
  rw [exec, execWrpix, h.pixLatch hp, withLatch_some]
  rfl

theorem State.portsIdle.step_eq (h : s.portsIdle) {p : Phase} (hp : s.ph = p) :
    step s = exec (operationOf p s.pat) s := by
  obtain ⟨hr, hc⟩ := h
  rw [step_of_fetch (fetch_uop hr hc), hp]

/-! ### The steps that write no pixel -/

/-- `t` is `s` one operation of the chain nearer to WRPIX: other latches, the same site, ports and memories (R182). -/
structure ChainStep (s t : State) : Prop where
  busy : t.status = .busy
  nearer : stepsToWrite s.ph = stepsToWrite t.ph + 1
  site : t.pos.site = s.pos.site
  ports : t.resetPin = s.resetPin ∧ t.cmd = s.cmd
  srcLen : t.srcLen = s.srcLen
  src : t.src = s.src
  raster : t.raster = s.raster

theorem State.SequencerInv.exists_chainStep (h : s.SequencerInv) (ports : s.portsIdle) (len : 0x4000 ≤ s.srcLen)
    (busy : s.status = .busy) (hw : s.ph ≠ .wrpix) : ∃ t, step s = .next t ∧ ChainStep s t := by
  cases hp : s.ph with
  | idle | done | fail => simp [State.status, statusOf, hp] at busy
  | wrpix => exact absurd hp hw
  | chklen =>
    exact ⟨_, (ports.step_eq hp).trans (if_neg (by omega)), rfl, congrArg stepsToWrite hp, rfl, ⟨rfl, rfl⟩, rfl, rfl, rfl⟩
  | amlook => exact ⟨_, ports.step_eq hp, rfl, congrArg stepsToWrite hp, rfl, ⟨rfl, rfl⟩, rfl, rfl, rfl⟩
  | fetch4 =>
    exact ⟨_, (ports.step_eq hp).trans (h.exec_fetch4 hp), rfl, congrArg stepsToWrite hp, rfl, ⟨rfl, rfl⟩, rfl, rfl, rfl⟩
  | slice =>
    exact ⟨_, (ports.step_eq hp).trans (h.exec_slice hp), rfl, congrArg stepsToWrite hp, rfl, ⟨rfl, rfl⟩, rfl, rfl, rfl⟩
  | rev4 =>
    exact ⟨_, (ports.step_eq hp).trans (h.exec_rev4 hp), rfl, congrArg stepsToWrite hp, rfl, ⟨rfl, rfl⟩, rfl, rfl, rfl⟩
  | pallook =>
    exact ⟨_, (ports.step_eq hp).trans (h.exec_pallook hp), rfl, congrArg stepsToWrite hp, rfl, ⟨rfl, rfl⟩, rfl, rfl, rfl⟩

theorem State.ph_ne_done_of_busy (h : s.status = .busy) : s.ph ≠ .done := by
  intro hp
  simp [State.status, statusOf, hp] at h

theorem ChainStep.written {t : State} (h : ChainStep s t) (busy : s.status = .busy) : t.pos.written = s.pos.written := by
  rw [Position.written_of_ne_done (State.ph_ne_done_of_busy h.busy),
    Position.written_of_ne_done (State.ph_ne_done_of_busy busy), h.site]

theorem ChainStep.stepsLeft {t : State} (h : ChainStep s t) (busy : s.status = .busy) :
    t.pos.stepsLeft + 1 = s.pos.stepsLeft := by
  obtain ⟨row, grp, pat, vrep, hrep⟩ := Site.mk.inj h.site
  rw [Position.stepsLeft_of_ne_done (State.ph_ne_done_of_busy h.busy),
    Position.stepsLeft_of_ne_done (State.ph_ne_done_of_busy busy), row, grp, pat, vrep, hrep]
  have nearer := h.nearer
  simp only [State.pos_ph]
  omega

/-! ### A transaction that will succeed, from its CHKLEN to DONE -/

/-- RASTER is what some list of painted sites has left, with every site before the position's among them. -/
def State.Painted (s : State) : Prop :=
  ∃ m l, s.raster = paint palRom s.srcFun m l ∧ ∀ q : Site, q.number < s.pos.written → q ∈ l

/-- The machine is in a transaction over the source `m` that passes the length check, no event on the ports, or has just
finished it. -/
structure State.Decoding (m : Memory) (s : State) : Prop where
  inv : s.SequencerInv
  ports : s.portsIdle
  len : 0x4000 ≤ s.srcLen
  source : s.src = m
  phase : s.status = .busy ∨ s.ph = .done
  trust : s.ph = .done → s.rasterTrust = .whole
  painted : s.Painted

theorem State.Painted.chain {t : State} (h : s.Painted) (busy : s.status = .busy) (c : ChainStep s t) : t.Painted := by
  obtain ⟨m, l, raster, all⟩ := h
  refine ⟨m, l, ?_, fun q hq => all q (c.written busy ▸ hq)⟩
  rw [c.raster, raster, State.srcFun, State.srcFun, c.src]

/-- WRPIX adds its own site to those painted. -/
theorem State.Painted.wrpix (h : s.Painted) (hp : s.ph = .wrpix) :
    ((s.setRaster (s.raster.writePixel s.pos.site.addr (s.pos.site.pixel palRom s.srcFun))).moveTo
      (advance s.pos)).Painted := by
  obtain ⟨m, l, raster, all⟩ := h
  refine ⟨m, l ++ [s.pos.site], ?_, fun q (hq : q.number < (advance s.pos).written) => ?_⟩
  · rw [paint_append_singleton]
    exact congrArg (Memory.writePixel · _ _) raster
  · rw [advance_written hp] at hq
    rcases Nat.lt_succ_iff_lt_or_eq.1 hq with before | here
    · exact List.mem_append_left _ (all q before)
    · have notDone : s.pos.ph ≠ .done := by simp [hp]
      rw [Position.written_of_ne_done notDone] at here
      simp [Site.number_injective here]

variable {m : Memory}

theorem State.Decoding.chain {t : State} (h : s.Decoding m) (busy : s.status = .busy) (ht : step s = .next t)
    (c : ChainStep s t) : t.Decoding m where
  inv := step_sequencerInv h.inv ht
  ports := ⟨c.ports.1.trans h.ports.1, c.ports.2.trans h.ports.2⟩
  len := c.srcLen ▸ h.len
  source := c.src.trans h.source
  phase := .inl c.busy
  trust := fun done => absurd done (State.ph_ne_done_of_busy c.busy)
  painted := h.painted.chain busy c

/-- One step of such a transaction. -/
theorem State.Decoding.exists_step (h : s.Decoding m) (busy : s.status = .busy) :
    ∃ t, step s = .next t ∧ t.Decoding m ∧ t.pos.stepsLeft + 1 = s.pos.stepsLeft := by
  by_cases hp : s.ph = .wrpix
  · have ht := (h.ports.step_eq hp).trans (h.inv.exec_wrpix hp)
    exact ⟨_, ht, ⟨step_sequencerInv h.inv ht, h.ports, h.len, h.source, advance_phase s.pos, fun done => if_pos done,
      h.painted.wrpix hp⟩, advance_stepsLeft hp⟩
  · obtain ⟨t, ht, c⟩ := h.inv.exists_chainStep h.ports h.len busy hp
    exact ⟨t, ht, h.chain busy ht c, c.stepsLeft busy⟩

/-- Any number of steps of such a transaction, up to its end. -/
theorem State.Decoding.exists_stepN (h : s.Decoding m) {n : Nat} (hn : n ≤ s.pos.stepsLeft) :
    ∃ t, stepN n s = .next t ∧ t.Decoding m ∧ t.pos.stepsLeft + n = s.pos.stepsLeft := by
  induction n generalizing s with
  | zero => exact ⟨s, rfl, h, rfl⟩
  | succ n ih =>
    have busy : s.status = .busy := h.phase.resolve_right fun done => by
      rw [Position.stepsLeft_of_done (p := s.pos) done] at hn
      omega
    obtain ⟨u, hu, decoding, left⟩ := h.exists_step busy
    obtain ⟨t, ht, decoding, left'⟩ := ih decoding (by omega)
    exact ⟨t, (stepN_succ_next hu).trans ht, decoding, by omega⟩

/-- Where such a transaction has finished, every byte of RASTER is the one `decode` gives. -/
theorem State.Decoding.read_of_done (h : s.Decoding m) (done : s.ph = .done) {a : Nat} (ha : a < 645120) :
    s.raster.read a = some (outByte palRom (srcByte m) a) := by
  obtain ⟨m₀, l, raster, all⟩ := h.painted
  have complete : ∀ q : Site, q ∈ l := fun q => all q (by
    rw [Position.written_of_done (p := s.pos) done]
    exact q.number_lt)
  rw [raster, read_paint_of_complete palRom _ m₀ complete ha, State.srcFun, h.source]

/-! ### The command and the whole run -/

/-- The position an accepted DECODE writes (R177). -/
def Position.start : Position := ⟨.chklen, 0, 0, 0, 0, 0⟩

theorem Position.written_start : Position.start.written = 0 := by decide

theorem Position.stepsLeft_start : Position.start.stepsLeft = 299713 := by decide

/-- An accepted DECODE, from any state, begins such a transaction. -/
theorem State.decoding_accept (hr : s.resetPin = false) (len : 0x4000 ≤ s.srcLen) :
    (s.accept.setPorts s.resetPin false).Decoding s.src where
  inv := (s.sequencerInv_clearCore (.inr rfl)).setPorts _ _
  ports := ⟨hr, rfl⟩
  len := len
  source := rfl
  phase := .inl rfl
  trust := nofun
  painted := ⟨s.raster, [], rfl, fun q (hq : q.number < Position.start.written) => by
    simp [Position.written_start] at hq⟩

/-- The step that takes the command leaves 299713 steps to DONE. -/
theorem State.StartsTransaction.exists_step (h : s.StartsTransaction) (len : 0x4000 ≤ s.srcLen) :
    ∃ t, step s = .next t ∧ t.Decoding s.src ∧ t.pos = Position.start := by
  obtain ⟨free, hr, hc⟩ := h
  exact ⟨_, (step_of_fetch (fetch_decode hr hc)).trans (if_neg free), State.decoding_accept hr len, rfl⟩

/-- A transaction that passes the length check reaches DONE in 299714 steps, its command's among them (R186, R191). -/
theorem State.StartsTransaction.exists_done (h : s.StartsTransaction) (len : 0x4000 ≤ s.srcLen) :
    ∃ t, stepN 299714 s = .next t ∧ t.Decoding s.src ∧ t.ph = .done := by
  obtain ⟨u, hu, decoding, start⟩ := h.exists_step len
  have left : u.pos.stepsLeft = 299713 := start ▸ Position.stepsLeft_start
  obtain ⟨t, ht, decoding, left'⟩ := decoding.exists_stepN left.ge
  exact ⟨t, (stepN_succ_next hu).trans ht, decoding, Position.ph_eq_done_of_stepsLeft (p := t.pos) (by omega)⟩

/-! ### The host's view -/

theorem State.rasterView_of_busy (busy : s.status = .busy) {a : Nat} (ha : a < 645120) :
    s.rasterView a = .unspecified := by
  rw [State.rasterView, if_neg (by omega), if_pos (.inl busy)]

theorem State.rasterView_of_whole (free : s.status ≠ .busy) (whole : s.rasterTrust = .whole) {a : Nat}
    (ha : a < 645120) {b : Byte} (hb : s.raster.read a = some b) : s.rasterView a = .byte b := by
  simp [State.rasterView, Nat.not_le.2 ha, free, whole, hb]

/-- Settles O54: BUSY hides RASTER, and at DONE every site has been painted and FINISH has handed all of it over. -/
theorem hostSeesRasterAtDone : Obligations.HostSeesRasterAtDone := by
  refine ⟨fun s busy a ha => State.rasterView_of_busy busy ha, fun s start len => ?_⟩
  obtain ⟨t, ht, decoding, done⟩ := start.exists_done len
  have status : t.status = .done := congrArg statusOf done
  exact ⟨t, ht, status, fun a ha =>
    State.rasterView_of_whole (by simp [status]) (decoding.trust done) ha (decoding.read_of_done done ha)⟩

end Sys2Proof.Machine
end

section
/-! PROOFS: operation words on their ports (30_encoding R91 to R95). -/

namespace Sys2Proof

/-! ### What each port's decoder reads -/

/-- The micro-operation words that match an operation's pattern string (30_encoding R93). -/
def wordMatches : Instr → Nat → Bool
  | .decode, _ | .reset, _ => false
  | .chklen, w => w / 8 == 1
  | .amlook, w => w / 8 == 2
  | .fetch4, w => w / 8 == 3
  | .slice0, w => w == 8 * 4 + 0
  | .slice1, w => w == 8 * 4 + 1
  | .slice2, w => w == 8 * 4 + 2
  | .slice3, w => w == 8 * 4 + 3
  | .slice4, w => w == 8 * 4 + 4
  | .slice5, w => w == 8 * 4 + 5
  | .slice6, w => w == 8 * 4 + 6
  | .rev4, w => w / 8 == 5
  | .pallook, w => w / 8 == 6
  | .wrpix, w => w / 8 == 7
  | .waitIdle, w => w / 8 == 0
  | .waitDone, w => w / 8 == 8
  | .waitFail, w => w / 8 == 9

theorem wordMatches_lt {i : Instr} {w : Nat} (h : wordMatches i w = true) : w < 128 := by
  cases i <;> simp [wordMatches] at h <;> omega

theorem decode_cmd_eq_ok {w : Nat} {i : Instr} : decode .cmd w = .ok i ↔ w = 1 ∧ i = .decode := by
  simp only [decode]
  split_ifs <;> simp_all [eq_comm]

theorem decode_resetPin_eq_ok {w : Nat} {i : Instr} : decode .resetPin w = .ok i ↔ w = 1 ∧ i = .reset := by
  simp only [decode]
  split_ifs <;> simp_all [eq_comm]

/-- Masks and matches of the table's rows select as the pattern strings say, on each of the 128 words of seven bits. -/
theorem decodeUop_eq_ok (w : Fin 128) (i : Instr) :
    decodeUop (BitVec.ofNat 7 w.val) = .ok i ↔ wordMatches i w.val = true := by
  cases i <;> revert w <;> decide

theorem decode_uop_eq_ok {w : Nat} {i : Instr} : decode .uop w = .ok i ↔ wordMatches i w = true := by
  by_cases hw : w < 128
  · rw [decode, if_pos hw]
    exact decodeUop_eq_ok ⟨w, hw⟩ i
  · rw [decode, if_neg hw]
    exact ⟨nofun, fun h => absurd (wordMatches_lt h) hw⟩

/-- Settles O4, port by port. -/
theorem decodesExactlyTheTable : Obligations.DecodesExactlyTheTable := by
  intro p w i
  cases p with
  | cmd =>
    rw [decode_cmd_eq_ok]
    cases i <;> simp
  | resetPin =>
    rw [decode_resetPin_eq_ok]
    cases i <;> simp
  | uop =>
    rw [decode_uop_eq_ok]
    cases i <;> simp [wordMatches]

/-- Settles O3, operation by operation. -/
theorem decodeOfEncode : Obligations.DecodeOfEncode := by
  intro i
  cases i with
  | decode => exact Laws.Encoding.decode
  | reset => exact Laws.Encoding.reset
  | chklen => exact Laws.Encoding.chklen
  | amlook => exact Laws.Encoding.amlook
  | fetch4 => exact Laws.Encoding.fetch4
  | slice0 => exact Laws.Encoding.slice0
  | slice1 => exact Laws.Encoding.slice1
  | slice2 => exact Laws.Encoding.slice2
  | slice3 => exact Laws.Encoding.slice3
  | slice4 => exact Laws.Encoding.slice4
  | slice5 => exact Laws.Encoding.slice5
  | slice6 => exact Laws.Encoding.slice6
  | rev4 => exact Laws.Encoding.rev4
  | pallook => exact Laws.Encoding.pallook
  | wrpix => exact Laws.Encoding.wrpix
  | waitIdle => exact Laws.Encoding.waitIdle
  | waitDone => exact Laws.Encoding.waitDone
  | waitFail => exact Laws.Encoding.waitFail

/-- Settles O5: ten words match their operations' pattern strings, and `0100111` is the reserved one (30_encoding R95). -/
theorem sampleWordsDecode : Obligations.SampleWordsDecode :=
  ⟨decode_uop_eq_ok.2 rfl, decode_uop_eq_ok.2 rfl, decode_uop_eq_ok.2 rfl, decode_uop_eq_ok.2 rfl,
    decode_uop_eq_ok.2 rfl, decode_uop_eq_ok.2 rfl, decode_uop_eq_ok.2 rfl, decode_uop_eq_ok.2 rfl,
    decode_cmd_eq_ok.2 ⟨rfl, rfl⟩, decode_resetPin_eq_ok.2 ⟨rfl, rfl⟩, rfl⟩

end Sys2Proof
end

section
/-! PROOFS: fields of a group's bytes, of a pixel's word and of the host's ports (30_encoding R82, R83, R88, R94). -/

namespace Sys2Proof.Machine

/-! ### The group's stream -/

/-- Bit by bit, the stream is the seven data bits of AUX0, of MAIN0, of AUX1 and of MAIN1 (30_encoding R83). -/
theorem getLsbD_groupStream (a0 a1 m0 m1 : Byte) (k : Nat) : (groupStream a0 a1 m0 m1).getLsbD k =
    if k < 7 then a0.getLsbD k else if k < 14 then m0.getLsbD (k - 7)
    else if k < 21 then a1.getLsbD (k - 14) else decide (k < 28) && m1.getLsbD (k - 21) := by
  have main0 : k - 7 < 7 ↔ k < 14 := by omega
  have aux1 : k - 14 < 7 ↔ k < 21 := by omega
  have main1 : k - 21 < 7 ↔ k < 28 := by omega
  rw [groupStream, BitVec.getLsbD_append, BitVec.getLsbD_append, BitVec.getLsbD_append]
  simp only [BitVec.getLsbD_extractLsb', Nat.zero_add, Nat.sub_sub, Nat.reduceAdd, main0, aux1, main1]
  split_ifs <;> simp [*]

/-- The masks and shifts of the seven slices, bit by bit: bit `j` of pattern `i` is bit `4i + j` of the stream. -/
theorem getLsbD_sliceOf (i : Fin 7) (a0 a1 m0 m1 : Byte) {j : Nat} (hj : j < 4) :
    (sliceOf i a0 a1 m0 m1).getLsbD j = (groupStream a0 a1 m0 m1).getLsbD (4 * i.val + j) := by
  rw [getLsbD_groupStream]
  fin_cases i <;> interval_cases j <;>
    simp [sliceOf, slice0, slice1, slice2, slice3, slice4, slice5, slice6]

/-- Settles O14, by the bits of the slices. -/
theorem slicesAreTheStream : Obligations.SlicesAreTheStream := by
  refine fun i a0 a1 m0 m1 => ⟨rfl, BitVec.eq_of_getLsbD_eq fun j hj => ?_⟩
  rw [getLsbD_sliceOf i a0 a1 m0 m1 hj, BitVec.getLsbD_extractLsb', decide_eq_true hj, Bool.true_and]

/-- Settles O15: each entry of the table names the same bit of the stream twice, by its byte and by its pattern. -/
theorem groupBitTable : Obligations.GroupBitTable := by
  intro a0 a1 m0 m1
  simp only [getLsbD_sliceOf, getLsbD_groupStream, Nat.reduceLT]
  simp

/-! ### The pixel's word -/

theorem pixelWord_fields (p : Pixel) : (pixelWord p).extractLsb' 16 8 = p.r ∧
    (pixelWord p).extractLsb' 8 8 = p.g ∧ (pixelWord p).extractLsb' 0 8 = p.b := by
  refine ⟨?_, ?_, ?_⟩ <;> rw [pixelWord]
  · rw [BitVec.extractLsb'_append_eq_of_le (by decide), BitVec.extractLsb'_append_eq_left]
  · rw [BitVec.extractLsb'_append_eq_of_le (by decide), BitVec.extractLsb'_append_eq_right]
  · rw [BitVec.extractLsb'_append_eq_right]

theorem pixelWord_pixelOfWord (w : BitVec 24) : pixelWord (pixelOfWord w) = w :=
  calc pixelWord (pixelOfWord w)
    _ = w.extractLsb' 16 8 ++ w.extractLsb' 8 8 ++ w.extractLsb' 0 8 := rfl
    _ = w.extractLsb' 8 16 ++ w.extractLsb' 0 8 :=
      congrArg (· ++ w.extractLsb' 0 8) (BitVec.extractLsb'_append_extractLsb'_eq_extractLsb' rfl)
    _ = w := BitVec.extractLsb'_append_extractLsb'

/-- Settles O20: the three fields lie side by side and fill the word. -/
theorem pixelAsWord : Obligations.PixelAsWord := by
  refine ⟨fun p => ?_, pixelWord_pixelOfWord⟩
  obtain ⟨r, g, b⟩ := pixelWord_fields p
  exact ⟨by rw [pixelOfWord, r, g, b], r, g, b⟩

/-! ### The codes on the host's ports -/

/-- Settles O36, by the code of each phase and of each error. -/
theorem statusAndErrCodes : Obligations.StatusAndErrCodes := by
  intro s
  constructor
  · rw [State.statusPort, State.status]
    cases s.ph <;> decide
  · rw [State.errPort]
    cases s.err <;> decide

end Sys2Proof.Machine
end

section
/-! PROOFS: the pseudo-operations of 30_encoding R98 as runs: EMIT, GROUP, LINE and the whole transaction, each loop of the
nest by one rule. -/

namespace Sys2Proof.Machine

/-! ### Runs of known operations -/

/-- From `s` the operations `l` are selected and executed, one a step, and lead to `t`. -/
inductive Runs : List Instr → State → State → Prop
  | nil {s : State} : Runs [] s s
  | cons {s u t : State} {i : Instr} {l : List Instr} (selected : fetch s = .ok i) (executed : exec i s = .next u)
      (rest : Runs l u t) : Runs (i :: l) s t

theorem Runs.append {l l' : List Instr} {s u t : State} (h : Runs l s u) (h' : Runs l' u t) : Runs (l ++ l') s t := by
  induction h with
  | nil => exact h'
  | cons selected executed _ ih => exact .cons selected executed (ih h')

theorem Runs.traceOf_eq {l : List Instr} {s t : State} (h : Runs l s t) : traceOf l.length s = l := by
  induction h with
  | nil => rfl
  | cons selected executed _ ih => simp [traceOf, selected, executed, ih]

theorem Runs.stepN_eq {l : List Instr} {s t : State} (h : Runs l s t) : stepN l.length s = .next t := by
  induction h with
  | nil => rfl
  | cons selected executed _ ih => exact (stepN_succ_next ((step_of_fetch selected).trans executed)).trans ih

/-- The rule of a loop whose counter runs from 0 to `n - 1`: where the body leads from each turn's state to the next turn's,
and from the last turn's to the exit, all the turns lead from the first to the exit. -/
theorem Runs.loop {n : Nat} {turn : Fin n → State → Prop} {exit : State → Prop} {body : Fin n → List Instr}
    (hbody : ∀ i s, turn i s → ∃ t, Runs (body i) s t ∧ (∀ j : Fin n, j.val = i.val + 1 → turn j t) ∧
      (i.val + 1 = n → exit t)) {i : Fin n} {s : State} (h : turn i s) :
    ∃ t, Runs (((List.finRange n).drop i.val).flatMap body) s t ∧ exit t := by
  obtain ⟨t, run, next, last⟩ := hbody i s h
  have unroll : (List.finRange n).drop i.val = i :: (List.finRange n).drop (i.val + 1) := by
    rw [List.drop_eq_getElem_cons (by simp), List.getElem_finRange]
    rfl
  rw [unroll, List.flatMap_cons]
  by_cases hi : i.val + 1 = n
  · refine ⟨t, ?_, last hi⟩
    rw [hi, List.drop_of_length_le (by simp)]
    simpa using run
  · obtain ⟨u, run', hu⟩ := Runs.loop hbody (next ⟨i.val + 1, by omega⟩ rfl)
    exact ⟨u, run.append run', hu⟩
termination_by n - i.val

/-! ### Positions of a running transaction -/

/-- The machine stands at the position `p`, in the sequencer invariant and with no event on the ports. -/
structure State.ReadyAt (s : State) (p : Position) : Prop where
  inv : s.SequencerInv
  ports : s.portsIdle
  pos : s.pos = p

/-- A run whose first operation is the one the position selects. -/
theorem State.ReadyAt.runs_cons {s u t : State} {p : Position} {l : List Instr} (h : s.ReadyAt p)
    (executed : exec (operationOf p.ph p.pat) s = .next u) (rest : Runs l u t) :
    Runs (operationOf p.ph p.pat :: l) s t := by
  obtain ⟨_, ⟨hr, hc⟩, rfl⟩ := h
  exact .cons (fetch_uop hr hc) executed rest

/-- The same counters in another phase. -/
def Position.inPhase (p : Position) (ph : Phase) : Position := { p with ph := ph }

/-- The place of copy `c` of the eight of a pattern: VREP is its upper bit and HREP its lower two (43_rasterizer R167). -/
def copySite (r : Fin 192) (g : Fin 20) (i : Fin 7) (c : Fin 8) : Site :=
  ⟨r, g, i, ⟨c.val / 4, by omega⟩, ⟨c.val % 4, by omega⟩⟩

/-- The eight copies of a pattern's pixel, in the order WRPIX writes them. -/
def copySites (r : Fin 192) (g : Fin 20) (i : Fin 7) : List Site := (List.finRange 8).map (copySite r g i)

/-- The position about to write a site. -/
def Site.writing (q : Site) : Position := ⟨.wrpix, q.row, q.grp, q.pat, q.vrep, q.hrep⟩

variable {r : Fin 192} {g : Fin 20} {i : Fin 7}

/-! ### ADVANCE at the loops' turns (44_sequencer_and_commands R183) -/

theorem advance_nextCopy {c d : Fin 8} (h : d.val = c.val + 1) :
    advance (copySite r g i c).writing = (copySite r g i d).writing := by
  by_cases low : c.val % 4 < 3
  · refine (if_pos low).trans ?_
    simp only [Site.writing, copySite, Position.mk.injEq, Fin.ext_iff, Fin.val_add, true_and]
    omega
  · have upper : c.val / 4 = 0 := by omega
    refine ((if_neg low).trans (if_pos upper)).trans ?_
    simp only [Site.writing, copySite, Position.mk.injEq, Fin.ext_iff, true_and]
    omega

theorem advance_nextPattern {j : Fin 7} (h : j.val = i.val + 1) :
    advance ⟨.wrpix, r, g, i, 1, 3⟩ = ⟨.slice, r, g, j, 0, 0⟩ := by
  have hi : i.val < 6 := by omega
  obtain rfl : j = i + 1 := by omega
  simp [advance, hi]

theorem advance_nextGroup {k : Fin 20} (h : k.val = g.val + 1) :
    advance ⟨.wrpix, r, g, 6, 1, 3⟩ = ⟨.fetch4, r, k, 0, 0, 0⟩ := by
  have hg : g.val < 19 := by omega
  obtain rfl : k = g + 1 := by omega
  simp [advance, hg]

theorem advance_nextRow {q : Fin 192} (h : q.val = r.val + 1) :
    advance ⟨.wrpix, r, 19, 6, 1, 3⟩ = ⟨.amlook, q, 0, 0, 0, 0⟩ := by
  have hr : r.val < 191 := by omega
  obtain rfl : q = r + 1 := by omega
  simp [advance, hr]

/-! ### EMIT -/

variable {s : State}

/-- One WRPIX of the canonical order: it paints its own site and goes on with ADVANCE. -/
theorem State.ReadyAt.runs_wrpix {q : Site} (h : s.ReadyAt q.writing) :
    ∃ t, Runs [.wrpix] s t ∧ t.ReadyAt (advance q.writing) ∧ t.srcFun = s.srcFun ∧
      t.raster = s.raster.writePixel q.addr (q.pixel palRom s.srcFun) := by
  have hp : s.ph = .wrpix := congrArg Position.ph h.pos
  have site : s.pos.site = q := congrArg Position.site h.pos
  have e := h.inv.exec_wrpix hp
  rw [site, h.pos] at e
  exact ⟨_, h.runs_cons e .nil, ⟨step_sequencerInv h.inv ((h.ports.step_eq hp).trans e), h.ports, rfl⟩, rfl, rfl⟩

/-- Before copy `c` of its pixel: the copies before it are painted over the raster `m`. -/
structure State.CopyTurn (m : Memory) (src : Nat → Byte) (r : Fin 192) (g : Fin 20) (i : Fin 7) (c : Fin 8) (s : State) :
    Prop where
  ready : s.ReadyAt (copySite r g i c).writing
  source : s.srcFun = src
  raster : s.raster = paint palRom src m ((copySites r g i).take c.val)

theorem copySites_take_succ (r : Fin 192) (g : Fin 20) (i : Fin 7) (c : Fin 8) :
    (copySites r g i).take (c.val + 1) = (copySites r g i).take c.val ++ [copySite r g i c] := by
  simp [copySites, List.take_add_one]

theorem State.ReadyAt.runs_copies (h : s.ReadyAt (copySite r g i 0).writing) :
    ∃ t, Runs (List.replicate 8 .wrpix) s t ∧ t.ReadyAt (advance ⟨.wrpix, r, g, i, 1, 3⟩) ∧
      t.raster = paint palRom s.srcFun s.raster (copySites r g i) := by
  refine Runs.loop (turn := State.CopyTurn s.raster s.srcFun r g i) (body := fun _ => [.wrpix]) (i := 0)
    (fun c u turn => ?_) ⟨h, rfl, rfl⟩
  obtain ⟨t, run, ready, source, raster⟩ := turn.ready.runs_wrpix
  have painted : t.raster = paint palRom s.srcFun s.raster ((copySites r g i).take (c.val + 1)) := by
    rw [copySites_take_succ, paint_append_singleton, raster, turn.raster, turn.source]
  refine ⟨t, run, fun d hd => ⟨advance_nextCopy hd ▸ ready, source.trans turn.source, hd ▸ painted⟩, fun last => ?_⟩
  obtain rfl : c = 7 := by omega
  exact ⟨ready, painted⟩

/-- EMIT: the chain from the slice to the first write, and the eight copies. -/
theorem State.ReadyAt.runs_emit (h : s.ReadyAt ⟨.slice, r, g, i, 0, 0⟩) :
    ∃ t, Runs (emitOps i) s t ∧ t.ReadyAt (advance ⟨.wrpix, r, g, i, 1, 3⟩) ∧
      t.raster = paint palRom s.srcFun s.raster (copySites r g i) := by
  have hp : s.ph = .slice := congrArg Position.ph h.pos
  obtain rfl : s.pat = i := congrArg Position.pat h.pos
  have h₁ : State.ReadyAt _ ⟨.rev4, r, g, s.pat, 0, 0⟩ :=
    ⟨h.inv.slice_rev4 hp, h.ports, congrArg (·.inPhase .rev4) h.pos⟩
  have h₂ : State.ReadyAt _ ⟨.pallook, r, g, s.pat, 0, 0⟩ :=
    ⟨h₁.inv.rev4_pallook rfl, h.ports, congrArg (·.inPhase .pallook) h.pos⟩
  have h₃ : State.ReadyAt _ (copySite r g s.pat 0).writing :=
    ⟨h₂.inv.pallook_wrpix rfl, h.ports, congrArg (·.inPhase .wrpix) h.pos⟩
  obtain ⟨t, copies, written⟩ := h₃.runs_copies
  exact ⟨t, h.runs_cons (h.inv.exec_slice hp) (h₁.runs_cons (h₁.inv.exec_rev4 rfl)
    (h₂.runs_cons (h₂.inv.exec_pallook rfl) copies)), written⟩

/-! ### GROUP, LINE and the transaction -/

theorem State.ReadyAt.runs_patterns (h : s.ReadyAt ⟨.slice, r, g, 0, 0, 0⟩) :
    ∃ t, Runs ((List.finRange 7).flatMap emitOps) s t ∧ t.ReadyAt (advance ⟨.wrpix, r, g, 6, 1, 3⟩) := by
  refine Runs.loop (turn := fun i u => u.ReadyAt ⟨.slice, r, g, i, 0, 0⟩) (i := 0) (fun i u turn => ?_) h
  obtain ⟨t, run, ready, _⟩ := turn.runs_emit
  refine ⟨t, run, fun j hj => advance_nextPattern hj ▸ ready, fun last => ?_⟩
  obtain rfl : i = 6 := by omega
  exact ready

theorem State.ReadyAt.runs_group (h : s.ReadyAt ⟨.fetch4, r, g, 0, 0, 0⟩) :
    ∃ t, Runs groupOps s t ∧ t.ReadyAt (advance ⟨.wrpix, r, g, 6, 1, 3⟩) := by
  have hp : s.ph = .fetch4 := congrArg Position.ph h.pos
  have next : State.ReadyAt _ ⟨.slice, r, g, 0, 0, 0⟩ :=
    ⟨h.inv.fetch4_slice hp, h.ports, congrArg (·.inPhase .slice) h.pos⟩
  obtain ⟨t, patterns, ready⟩ := next.runs_patterns
  exact ⟨t, h.runs_cons (h.inv.exec_fetch4 hp) patterns, ready⟩

theorem flatMap_finRange_const {α : Type} (n : Nat) (l : List α) :
    (List.finRange n).flatMap (fun _ => l) = (List.replicate n l).flatten := by
  simp [List.flatMap_def]

theorem State.ReadyAt.runs_groups (h : s.ReadyAt ⟨.fetch4, r, 0, 0, 0, 0⟩) :
    ∃ t, Runs (List.replicate 20 groupOps).flatten s t ∧ t.ReadyAt (advance ⟨.wrpix, r, 19, 6, 1, 3⟩) := by
  rw [← flatMap_finRange_const]
  refine Runs.loop (turn := fun g u => u.ReadyAt ⟨.fetch4, r, g, 0, 0, 0⟩) (i := 0) (fun g u turn => ?_) h
  obtain ⟨t, run, ready⟩ := turn.runs_group
  refine ⟨t, run, fun k hk => advance_nextGroup hk ▸ ready, fun last => ?_⟩
  obtain rfl : g = 19 := by omega
  exact ready

theorem State.ReadyAt.runs_line (h : s.ReadyAt ⟨.amlook, r, 0, 0, 0, 0⟩) :
    ∃ t, Runs lineOps s t ∧ t.ReadyAt (advance ⟨.wrpix, r, 19, 6, 1, 3⟩) := by
  have hp : s.ph = .amlook := congrArg Position.ph h.pos
  have next : State.ReadyAt _ ⟨.fetch4, r, 0, 0, 0, 0⟩ :=
    ⟨h.inv.amlook_fetch4 hp, h.ports, congrArg (·.inPhase .fetch4) h.pos⟩
  obtain ⟨t, groups, ready⟩ := next.runs_groups
  exact ⟨t, h.runs_cons rfl groups, ready⟩

theorem State.ReadyAt.runs_lines (h : s.ReadyAt ⟨.amlook, 0, 0, 0, 0, 0⟩) :
    ∃ t, Runs (List.replicate 192 lineOps).flatten s t ∧ t.ReadyAt (advance ⟨.wrpix, 191, 19, 6, 1, 3⟩) := by
  rw [← flatMap_finRange_const]
  refine Runs.loop (turn := fun r u => u.ReadyAt ⟨.amlook, r, 0, 0, 0, 0⟩) (i := 0) (fun r u turn => ?_) h
  obtain ⟨t, run, ready⟩ := turn.runs_line
  refine ⟨t, run, fun q hq => advance_nextRow hq ▸ ready, fun last => ?_⟩
  obtain rfl : r = 191 := by omega
  exact ready

theorem State.ReadyAt.runs_transaction (h : s.ReadyAt Position.start) (len : 0x4000 ≤ s.srcLen) :
    ∃ t, Runs transactionOps s t ∧ t.ReadyAt (advance ⟨.wrpix, 191, 19, 6, 1, 3⟩) := by
  have hp : s.ph = .chklen := congrArg Position.ph h.pos
  have next : State.ReadyAt _ ⟨.amlook, 0, 0, 0, 0, 0⟩ :=
    ⟨h.inv.chklen_amlook hp, h.ports, congrArg (·.inPhase .amlook) h.pos⟩
  obtain ⟨t, lines, ready⟩ := next.runs_lines
  exact ⟨t, h.runs_cons (if_neg (by omega)) lines, ready⟩

/-! ### The lengths of the pseudo-operations (30_encoding R98) -/

theorem length_groupOps : groupOps.length = 78 := by decide

theorem length_flatten_replicate {α : Type} (n : Nat) (l : List α) :
    (List.replicate n l).flatten.length = n * l.length := by
  simp

theorem length_lineOps : lineOps.length = 1561 := by
  rw [lineOps, List.length_cons, length_flatten_replicate, length_groupOps]

theorem length_transactionOps : transactionOps.length = 299713 := by
  rw [transactionOps, List.length_cons, length_flatten_replicate, length_lineOps]

/-- Settles O49: the command, CHKLEN and the 192 LINE in turn; the run's trace is its operations. -/
theorem transactionTrace : Obligations.TransactionTrace := by
  intro s start len
  obtain ⟨u, hu, decoding, pos⟩ := start.exists_step len
  obtain ⟨free, hr, hc⟩ := start
  rw [step_of_fetch (fetch_decode hr hc)] at hu
  obtain ⟨t, run, _⟩ := State.ReadyAt.runs_transaction ⟨decoding.inv, decoding.ports, pos⟩ decoding.len
  have trace := (Runs.cons (fetch_decode hr hc) hu run).traceOf_eq
  rwa [List.length_cons, length_transactionOps] at trace

/-! ### What EMIT leaves in RASTER -/

/-- A byte of no painted site is as it was. -/
theorem read_paint_of_not_mem {pal : Index → Pixel} {src : Nat → Byte} {a : Nat} {l : List Site}
    (other : ∀ q ∈ l, a / 3 ≠ q.pixelNo) (m : Memory) : (paint pal src m l).read a = m.read a := by
  induction l generalizing m with
  | nil => rfl
  | cons q l ih =>
    refine (ih (fun q' hq => other q' (List.mem_cons_of_mem q hq)) _).trans ?_
    rw [read_writePixel_site, if_neg (other q List.mem_cons_self)]

/-- In a byte of a site `decode` puts a channel of the site's pixel (43_rasterizer R164). -/
theorem outByte_of_site {pal : Index → Pixel} {src : Nat → Byte} {a : Nat} {q : Site} (ha : a / 3 = q.pixelNo) :
    outByte pal src a = channel (q.pixel pal src) (a % 3) := by
  rw [Site.pixel_eq_pixelAt, outByte, ha]

theorem mem_copySites (v : Fin 2) (h : Fin 4) : (⟨r, g, i, v, h⟩ : Site) ∈ copySites r g i := by
  refine List.mem_map.2 ⟨⟨4 * v.val + h.val, by omega⟩, List.mem_finRange _, ?_⟩
  simp only [copySite, Site.mk.injEq, Fin.ext_iff, true_and]
  omega

/-- Settles O48: EMIT paints the eight copies' sites, so a byte of one of them is a channel of their pixel, and every other
byte is as it was. -/
theorem emitWritesEightCopies : Obligations.EmitWritesEightCopies := by
  intro s inv ports hp
  have pos : s.pos = ⟨.slice, s.row, s.grp, s.pat, 0, 0⟩ := by
    obtain ⟨hv, hh⟩ := inv.copies (by simp [hp])
    rw [State.pos, hp, hv, hh]
  obtain ⟨t, run, _, raster⟩ := State.ReadyAt.runs_emit ⟨inv, ports, pos⟩
  refine ⟨run.traceOf_eq, t, run.stepN_eq, fun v h ch hv hh hch => ?_, fun x other => ?_⟩
  · have byte : ∀ n, (3 * n + ch) / 3 = n ∧ (3 * n + ch) % 3 = ch := by omega
    have site := mem_copySites (r := s.row) (g := s.grp) (i := s.pat) ⟨v, hv⟩ ⟨h, hh⟩
    have read := read_paint_of_mem (pal := palRom) (src := s.srcFun) (byte _).1 site s.raster
    rwa [← raster, outByte_of_site (byte _).1, (byte _).2] at read
  · rw [raster, read_paint_of_not_mem fun q hq own => ?_]
    obtain ⟨c, _, rfl⟩ := List.mem_map.1 hq
    refine other (c.val / 4) (c.val % 4) (x % 3) (by omega) (by omega) (by omega) ?_
    rw [Site.pixelNo_eq] at own
    simp only [copySite] at own
    omega

end Sys2Proof.Machine
end

section
/-! PROOFS: the address mapper (40_address_mapper R110 to R115): the fields of an offset of a bank, and that they name the one
row and column it belongs to. -/

namespace Sys2Proof.Machine

/-! ### The fields of an offset (40_address_mapper R114, 30_encoding R84) -/

section
variable {r c : Nat} (hr : r < 192) (hc : c ≤ 39)
include hr hc

theorem thirds_add_column_le : r / 64 * 40 + c ≤ 119 := by omega

theorem baseOffset_add_mod_128 : (baseOffset r + c) % 128 = r / 64 * 40 + c := by
  rw [baseOffset]
  omega

theorem baseOffset_add_div_128 : (baseOffset r + c) / 128 = r % 8 * 8 + r % 64 / 8 := by
  rw [baseOffset]
  omega

end

/-- The base offset of the row at line `line` of group `group` of the screen's third `third` (40_address_mapper R110). -/
theorem baseOffset_of_fields {third group line : Nat} (hg : group < 8) (hl : line < 8) :
    baseOffset (third * 64 + group * 8 + line) = (line * 8 + group) * 128 + third * 40 := by
  have third_eq : (third * 64 + group * 8 + line) / 64 = third := by omega
  have group_eq : (third * 64 + group * 8 + line) % 64 / 8 = group := by omega
  have line_eq : (third * 64 + group * 8 + line) % 8 = line := by omega
  rw [baseOffset, third_eq, group_eq, line_eq]
  omega

/-- Settles O8: adding a column, 0 included, keeps the low seven bits' sum below 128, so nothing carries into bit 7. -/
theorem baseOffsetFields : Obligations.BaseOffsetFields := by
  intro r c hr hc
  have low : baseOffset r % 128 = r / 64 * 40 := by simpa using baseOffset_add_mod_128 hr (Nat.zero_le 39)
  have high : baseOffset r / 128 = r % 8 * 8 + r % 64 / 8 := by simpa using baseOffset_add_div_128 hr (Nat.zero_le 39)
  have third : r / 64 < 3 := by omega
  refine ⟨by omega, by omega, by omega, low, (baseOffset_add_div_128 hr hc).trans high.symm,
    baseOffset_add_mod_128 hr hc, thirds_add_column_le hr hc, ?_, by omega⟩
  interval_cases r / 64 <;> simp

/-! ### The row and the column an offset belongs to (40_address_mapper R115) -/

/-- The row that the fields of an offset name. -/
def rowOfOffset (x : Nat) : Nat := x % 128 / 40 * 64 + x / 128 % 8 * 8 + x / 128 / 8

/-- The column that the low field of an offset names. -/
def columnOfOffset (x : Nat) : Nat := x % 128 % 40

theorem rowOfOffset_lt {x : Nat} (bank : x < 0x2000) (used : x % 128 < 120) : rowOfOffset x < 192 := by
  rw [rowOfOffset]
  omega

theorem columnOfOffset_le (x : Nat) : columnOfOffset x ≤ 39 := by
  rw [columnOfOffset]
  omega

theorem rowOfOffset_baseOffset_add {r c : Nat} (hr : r < 192) (hc : c ≤ 39) : rowOfOffset (baseOffset r + c) = r := by
  have third : (r / 64 * 40 + c) / 40 = r / 64 := by omega
  have group : (r % 8 * 8 + r % 64 / 8) % 8 = r % 64 / 8 := by omega
  have line : (r % 8 * 8 + r % 64 / 8) / 8 = r % 8 := by omega
  rw [rowOfOffset, baseOffset_add_mod_128 hr hc, baseOffset_add_div_128 hr hc, third, group, line]
  omega

theorem columnOfOffset_baseOffset_add {r c : Nat} (hr : r < 192) (hc : c ≤ 39) :
    columnOfOffset (baseOffset r + c) = c := by
  rw [columnOfOffset, baseOffset_add_mod_128 hr hc]
  omega

theorem baseOffset_rowOfOffset_add_columnOfOffset {x : Nat} (bank : x < 0x2000) (used : x % 128 < 120) :
    baseOffset (rowOfOffset x) + columnOfOffset x = x := by
  rw [rowOfOffset, baseOffset_of_fields (by omega) (by omega), columnOfOffset]
  omega

/-- Of each 128 offsets 120 belong to a row (40_address_mapper R115). -/
theorem length_filter_used (n : Nat) :
    ((List.range (128 * n)).filter (fun x => decide (x % 128 < 120))).length = 120 * n := by
  induction n with
  | zero => rfl
  | succ n ih =>
    have shifted : (fun x => decide (x % 128 < 120)) ∘ (128 * n + ·) = fun x => decide (x % 128 < 120) := by
      funext x
      simp
    have period : ((List.range 128).filter (fun x => decide (x % 128 < 120))).length = 120 := rfl
    rw [Nat.mul_succ, List.range_add, List.filter_append, List.filter_map, shifted, List.length_append, List.length_map,
      ih, period, Nat.mul_succ]

/-- Settles O9: the fields of an offset give back its row and its column, and an offset whose low field is below 120 is the
one its own row and column give. -/
theorem rowsDoNotOverlap : Obligations.RowsDoNotOverlap := by
  refine ⟨fun r r' c c' hr hr' hc hc' same => ⟨?_, ?_⟩, fun x bank => ⟨?_, fun used => ?_⟩, length_filter_used 64⟩
  · rw [← rowOfOffset_baseOffset_add hr hc, same, rowOfOffset_baseOffset_add hr' hc']
  · rw [← columnOfOffset_baseOffset_add hr hc, same, columnOfOffset_baseOffset_add hr' hc']
  · rintro ⟨r, c, hr, hc, rfl⟩
    have := thirds_add_column_le hr hc
    rw [baseOffset_add_mod_128 hr hc]
    omega
  · exact ⟨rowOfOffset x, columnOfOffset x, rowOfOffset_lt bank used, columnOfOffset_le x,
      (baseOffset_rowOfOffset_add_columnOfOffset bank used).symm⟩

/-! ### The base offset ROM and AMLOOK (40_address_mapper R110 to R113) -/

/-- Settles O6: each entry, block of 64 by block, is the formula's value. -/
theorem baseRomIsFormula : Obligations.BaseRomIsFormula :=
  ⟨rfl, baseRom_toNat⟩

/-- Settles O7: the bound is the formula's, and row 191 reaches it. -/
theorem baseOffsetRange : Obligations.BaseOffsetRange := by
  have largest : (baseRom 191).toNat = 0x1FD0 := baseRom_toNat 191
  refine ⟨fun r => ?_, largest, by rw [largest]⟩
  have := baseOffset_le r
  rw [baseRom_toNat]
  omega

/-- An entry of the ROM is the formula's value as a 13-bit word. -/
theorem baseRom_eq_ofNat (r : Fin 192) : baseRom r = BitVec.ofNat 13 (baseOffset r.val) := by
  rw [← baseRom_toNat, BitVec.ofNat_toNat, BitVec.setWidth_eq]

/-- Settles O10: AMLOOK reads the ROM, whose entry is the formula's value. -/
theorem amlookLoadsBaseOffset : Obligations.AmlookLoadsBaseOffset := by
  intro s
  change execAmlook s = .next ((s.setBase (BitVec.ofNat 13 (baseOffset s.row.val))).setPh .fetch4)
  rw [execAmlook, baseRom_eq_ofNat]

end Sys2Proof.Machine
end

section
/-! PROOFS: the packed-nibble extractor (41_nibble_extractor R125 to R141): what FETCH4, the slices and REV4 write, the 4-bit
reversal, and the bits of SRC that a pattern is cut from. -/

namespace Sys2Proof.Machine

/-! ### The bits a pattern is cut from (41_nibble_extractor R135, R140) -/

/-- A pattern is four bits of the group's stream, and the stream holds bits 6 to 0 of each byte (30_encoding R83). -/
theorem sliceOf_eq_of_dataBits {a0 a1 m0 m1 b0 b1 n0 n1 : Byte} (h0 : a0.extractLsb' 0 7 = b0.extractLsb' 0 7)
    (h1 : a1.extractLsb' 0 7 = b1.extractLsb' 0 7) (h2 : m0.extractLsb' 0 7 = n0.extractLsb' 0 7)
    (h3 : m1.extractLsb' 0 7 = n1.extractLsb' 0 7) (i : Fin 7) : sliceOf i a0 a1 m0 m1 = sliceOf i b0 b1 n0 n1 := by
  rw [(slicesAreTheStream i a0 a1 m0 m1).2, (slicesAreTheStream i b0 b1 n0 n1).2]
  simp only [groupStream, h0, h1, h2, h3]

/-- The two sources agree in bits 6 to 0 of every byte that a row of either bank holds (20_memory R63). -/
def DataBitsAgree (src₁ src₂ : Nat → Byte) : Prop :=
  ∀ a, a < 0x4000 → a % 128 < 120 → (src₁ a).extractLsb' 0 7 = (src₂ a).extractLsb' 0 7

section
variable {src₁ src₂ : Nat → Byte} (agree : DataBitsAgree src₁ src₂)
include agree

/-- A row's offset has its low field below 120, in the auxiliary bank and in the main bank (40_address_mapper R114). -/
theorem DataBitsAgree.at_column {r c : Nat} (hr : r < 192) (hc : c ≤ 39) :
    (src₁ (baseOffset r + c)).extractLsb' 0 7 = (src₂ (baseOffset r + c)).extractLsb' 0 7 ∧
      (src₁ (0x2000 + (baseOffset r + c))).extractLsb' 0 7 = (src₂ (0x2000 + (baseOffset r + c))).extractLsb' 0 7 := by
  have bank : baseOffset r ≤ 0x1FD0 := baseOffset_le ⟨r, hr⟩
  have used : (baseOffset r + c) % 128 < 120 := by
    have := thirds_add_column_le hr hc
    rw [baseOffset_add_mod_128 hr hc]
    omega
  exact ⟨agree _ (by omega) used, agree _ (by omega) (by omega)⟩

theorem DataBitsAgree.patternAt_eq {r g : Nat} (hr : r < 192) (hg : g < 20) (i : Fin 7) :
    patternAt src₁ r g i = patternAt src₂ r g i := by
  obtain ⟨aux0, main0⟩ := agree.at_column hr (c := 2 * g) (by omega)
  obtain ⟨aux1, main1⟩ := agree.at_column hr (c := 2 * g + 1) (by omega)
  simp only [patternAt, Nat.add_assoc]
  exact sliceOf_eq_of_dataBits aux0 aux1 main0 main1 i

theorem DataBitsAgree.outByte_eq (pal : Index → Pixel) {a : Nat} (ha : a < 645120) :
    outByte pal src₁ a = outByte pal src₂ a := by
  simp only [outByte, pixelAt, cidxAt]
  rw [agree.patternAt_eq (by omega) (by omega)]

end

/-- Settles O57: each byte of the raster comes from one pattern, and no pattern has a bit that may differ. -/
theorem ignoredBitsDoNotMatter : Obligations.IgnoredBitsDoNotMatter := by
  intro pal src₁ src₂ len agree
  have bytes : (List.range 645120).map (outByte pal src₁) = (List.range 645120).map (outByte pal src₂) :=
    List.map_congr_left fun _ ha => DataBitsAgree.outByte_eq agree pal (List.mem_range.1 ha)
  rw [bigDecode, bigDecode, bytes]

/-! ### SLICE0 to SLICE6 (41_nibble_extractor R128 to R134) -/

theorem withLatch_of_some {α : Type} {n : LatchName} {latch : Option α} {go : α → Result} {v : α} (h : latch = some v) :
    withLatch n latch go = go v := by
  rw [h, withLatch_some]

/-- The fields of pattern `i`, the high one first, as the pseudocode of its slice names them. -/
def patternFields (i : Fin 7) (a0 a1 m0 m1 : Byte) : Index :=
  match i.val with
  | 0 => a0.extractLsb' 0 4
  | 1 => m0.extractLsb' 0 1 ++ a0.extractLsb' 4 3
  | 2 => m0.extractLsb' 1 4
  | 3 => a1.extractLsb' 0 2 ++ m0.extractLsb' 5 2
  | 4 => a1.extractLsb' 2 4
  | 5 => m1.extractLsb' 0 3 ++ a1.extractLsb' 6 1
  | _ => m1.extractLsb' 3 4

/-- The masks and shifts of a slice cut the fields of its pseudocode. -/
theorem sliceOf_eq_patternFields (i : Fin 7) (a0 a1 m0 m1 : Byte) :
    sliceOf i a0 a1 m0 m1 = patternFields i a0 a1 m0 m1 := by
  refine BitVec.eq_of_getLsbD_eq fun j hj => ?_
  rw [getLsbD_sliceOf i a0 a1 m0 m1 hj, getLsbD_groupStream]
  fin_cases i
  all_goals
    simp only [patternFields, BitVec.getLsbD_append]
    interval_cases j <;> simp

/-- Settles O13: a slice whose latches hold bytes writes the fields of its pattern into PIDX. -/
theorem slicesCutTheirFields : Obligations.SlicesCutTheirFields := by
  intro s a0 a1 m0 m1
  have cut (i : Fin 7) : sliceInto (sliceOf i a0 a1 m0 m1) s = sliceInto (patternFields i a0 a1 m0 m1) s := by
    rw [sliceOf_eq_patternFields]
  exact ⟨fun aux0 => (withLatch_of_some aux0).trans (cut 0),
    fun main0 aux0 => (withLatch_of_some main0).trans ((withLatch_of_some aux0).trans (cut 1)),
    fun main0 => (withLatch_of_some main0).trans (cut 2),
    fun aux1 main0 => (withLatch_of_some aux1).trans ((withLatch_of_some main0).trans (cut 3)),
    fun aux1 => (withLatch_of_some aux1).trans (cut 4),
    fun main1 aux1 => (withLatch_of_some main1).trans ((withLatch_of_some aux1).trans (cut 5)),
    fun main1 => (withLatch_of_some main1).trans (cut 6)⟩

/-! ### FETCH4 (41_nibble_extractor R125) -/

/-- Settles O11: where the range test passes, the four reads are those of the two banks. -/
theorem fetch4LoadsGroup : Obligations.Fetch4LoadsGroup := by
  intro s b base range
  rw [Nat.add_assoc 0x2000 b.toNat]
  exact execFetch4_of_inRange base range

/-- Settles O12: where the range test fails, FETCH4 raises the error before any read. -/
theorem fetch4RaisesOutOfRange : Obligations.Fetch4RaisesOutOfRange :=
  fun _ _ base range => execFetch4_of_outOfRange base range

/-! ### The reversals (41_nibble_extractor R136, R138) -/

theorem getLsbD_rev4 (p : Index) {j : Nat} (hj : j < 4) : (rev4 p).getLsbD j = p.getLsbD (3 - j) := by
  interval_cases j <;> simp [rev4]

theorem getLsbD_rev8 (b : Byte) {j : Nat} (hj : j < 8) : (rev8 b).getLsbD (7 - j) = b.getLsbD j := by
  simp only [rev8, BitVec.getLsbD_append]
  interval_cases j <;> simp

theorem rev4_rev4 (p : Index) : rev4 (rev4 p) = p := by
  refine BitVec.eq_of_getLsbD_eq fun j hj => ?_
  rw [getLsbD_rev4 _ hj, getLsbD_rev4 p (by omega), Nat.sub_sub_self (by omega)]

theorem rev4_eq_append (p : Index) :
    rev4 p = p.extractLsb' 0 1 ++ p.extractLsb' 1 1 ++ p.extractLsb' 2 1 ++ p.extractLsb' 3 1 := by
  refine BitVec.eq_of_getLsbD_eq fun j hj => ?_
  simp only [getLsbD_rev4 p hj, BitVec.getLsbD_append]
  interval_cases j <;> simp

/-- The top nibble of a reversed byte is the byte's low nibble reversed. -/
theorem rev8_setWidth_shiftRight (p : Index) : rev8 (p.setWidth 8) >>> 4 = (rev4 p).setWidth 8 := by
  refine BitVec.eq_of_getLsbD_eq fun j hj => ?_
  rw [BitVec.getLsbD_ushiftRight, BitVec.getLsbD_setWidth, decide_eq_true hj, Bool.true_and]
  by_cases low : j < 4
  · have mirror : 4 + j = 7 - (3 - j) := by omega
    rw [mirror, getLsbD_rev8 _ (by omega), BitVec.getLsbD_setWidth, getLsbD_rev4 p low, decide_eq_true (by omega),
      Bool.true_and]
  · rw [BitVec.getLsbD_of_ge _ _ (by omega), BitVec.getLsbD_of_ge _ _ (by omega)]

theorem rev4_toNat (p : Index) :
    (rev4 p).toNat = [0, 8, 4, 12, 2, 10, 6, 14, 1, 9, 5, 13, 3, 11, 7, 15].getD p.toNat 16 := by
  decide +revert

theorem rev4_eq_self_iff (p : Index) : rev4 p = p ↔ p = 0 ∨ p = 6 ∨ p = 9 ∨ p = 15 := by
  decide +revert

/-- Settles O16: the readings of `rev4`, by its bits, and its table and fixed points over the sixteen patterns. -/
theorem rev4Reverses : Obligations.Rev4Reverses := by
  intro p
  have topNibble : rev4 p = (rev8 (p.setWidth 8) >>> 4).setWidth 4 := by
    rw [rev8_setWidth_shiftRight, BitVec.setWidth_setWidth_of_le _ (by decide), BitVec.setWidth_eq]
  exact ⟨⟨getLsbD_rev4 p (by decide), getLsbD_rev4 p (by decide), getLsbD_rev4 p (by decide), getLsbD_rev4 p (by decide)⟩,
    rfl, topNibble, rev4_toNat p, rev4_rev4 p, rev4_eq_self_iff p⟩

/-- Settles O17: both reversals send a bit to its mirror image. -/
theorem reversalReadingsAgree : Obligations.ReversalReadingsAgree :=
  ⟨fun b _ hj => getLsbD_rev8 b hj, rev8_setWidth_shiftRight, rev8_setWidth_shiftRight 1⟩

/-- Settles O18: `rev4` of PIDX is its four bits in the opposite order. -/
theorem rev4WritesColourIndex : Obligations.Rev4WritesColourIndex := by
  intro s p pidx
  rw [← rev4_eq_append]
  exact withLatch_of_some pidx

end Sys2Proof.Machine
end

section
/-! PALLOOK (42_palette_lookup): its whole effect, entry by entry of the ROM. -/

namespace Sys2Proof.Machine

/-! ### The palette lookup (42_palette_lookup R151, R152) -/

theorem palRom_eq_ite (c : Index) : palRom c = if c = 0 then ⟨0, 0, 0⟩ else Config.palette c := rfl

/-- Settles O19: PALLOOK stores the ROM's entry of CIDX, which is black for entry 0 and the open parameter otherwise. -/
theorem pallookReadsPalette : Obligations.PallookReadsPalette := by
  intro s c cidx
  rw [← palRom_eq_ite]
  exact withLatch_of_some cidx

end Sys2Proof.Machine
end

section
/-! PROOFS: the rasterizer (43_rasterizer): the place and the effect of one WRPIX, and what all of them leave in RASTER. -/

namespace Sys2Proof.Machine

/-! ### A pixel's number and its counters (43_rasterizer R162, R167) -/

theorem writeAddr_eq_pixelNo (p : Position) : writeAddr p = 3 * p.site.pixelNo := rfl

theorem writeAddr_div_three (p : Position) : writeAddr p / 3 = p.site.pixelNo := by
  rw [writeAddr_eq_pixelNo, Nat.mul_div_cancel_left _ (by decide)]

theorem Site.pixelNo_lt (q : Site) : q.pixelNo < 215040 := by
  rw [Site.pixelNo_eq]
  omega

/-- The quotients and remainders by which R167 inverts the pixel number. -/
theorem Site.counters_of_pixelNo (q : Site) :
    q.row.val = q.pixelNo / 560 / 2 ∧ q.vrep.val = q.pixelNo / 560 % 2 ∧ q.grp.val = q.pixelNo % 560 / 4 / 7 ∧
      q.pat.val = q.pixelNo % 560 / 4 % 7 ∧ q.hrep.val = q.pixelNo % 560 % 4 := by
  rw [Site.pixelNo_eq]
  omega

theorem exists_site_of_pixelNo {n : Nat} (hn : n < 215040) : ∃ q : Site, q.pixelNo = n := by
  obtain ⟨q, own⟩ := exists_site_of_byte (a := 3 * n) (by omega)
  exact ⟨q, by omega⟩

/-- Settles O23: the number's quotients and remainders give the counters back, and every number has a site. -/
theorem everyPixelHasOnePosition : Obligations.EveryPixelHasOnePosition := by
  refine ⟨fun p => ?_, fun n hn => ?_⟩
  · rw [writeAddr_div_three]
    exact ⟨writeAddr_eq_pixelNo p, p.site.pixelNo_lt, p.site.counters_of_pixelNo⟩
  · obtain ⟨q, rfl⟩ := exists_site_of_pixelNo hn
    exact ⟨q.writing, rfl⟩

/-! ### One WRPIX (43_rasterizer R163) -/

/-- A pixel's three bytes after its write, R at the lowest address (20_memory R57). -/
theorem Memory.read_writePixel_own (m : Memory) (a : Nat) (p : Pixel) :
    (m.writePixel a p).read a = some p.r ∧ (m.writePixel a p).read (a + 1) = some p.g ∧
      (m.writePixel a p).read (a + 2) = some p.b := by
  simp [Memory.read_writePixel]

theorem Memory.read_writePixel_other {a x : Nat} (h0 : x ≠ a) (h1 : x ≠ a + 1) (h2 : x ≠ a + 2) (m : Memory) (p : Pixel) :
    (m.writePixel a p).read x = m.read x := by
  rw [Memory.read_writePixel, if_neg h2, if_neg h1, if_neg h0]

/-- Settles O21: WRPIX is a pixel's write to RASTER and a move of the counters. -/
theorem wrpixStoresPixel : Obligations.WrpixStoresPixel := by
  intro s p pix a
  obtain ⟨red, green, blue⟩ := s.raster.read_writePixel_own a p
  exact ⟨(s.setRaster (s.raster.writePixel a p)).moveTo (advance s.pos), withLatch_of_some pix, red, green, blue,
    fun x h0 h1 h2 => Memory.read_writePixel_other h0 h1 h2 s.raster p, fun _ => rfl,
    rfl, rfl, rfl, rfl, rfl, rfl, rfl, rfl, rfl, rfl, rfl, rfl⟩

/-- Settles O60: PIX holds the pixel of the site the counters name (10_state R38). -/
theorem wrpixPaintsItsSite : Obligations.WrpixPaintsItsSite :=
  fun _ inv hp => ⟨_, inv.exec_wrpix hp, rfl⟩

/-! ### The finished raster (43_rasterizer R164, R165) -/

/-- The byte of `decode` for channel `ch` of the pixel in row `y` and column `x` (44_sequencer_and_commands R190). -/
theorem outByte_of_rowColumn (pal : Index → Pixel) (src : Nat → Byte) (y : Nat) {x ch : Nat} (hx : x < 560) (hch : ch < 3) :
    outByte pal src (3 * (560 * y + x) + ch) = channel (pixelAt pal src y x) ch := by
  have number : (3 * (560 * y + x) + ch) / 3 = 560 * y + x := by omega
  have row : (560 * y + x) / 560 = y := by omega
  have column : (560 * y + x) % 560 = x := by omega
  have chan : (3 * (560 * y + x) + ch) % 3 = ch := by omega
  rw [outByte, number, row, column, chan]

/-- Settles O52: at DONE every byte is the one `decode` gives, which is the raster equation's at its row and column. -/
theorem rasterEquation : Obligations.RasterEquation := by
  intro s start len
  obtain ⟨t, ht, decoding, done⟩ := start.exists_done len
  refine ⟨t, ht, congrArg statusOf done, fun y x ch hy hx hch => ?_⟩
  rw [decoding.read_of_done done (by omega), outByte_of_rowColumn palRom _ y hx hch]
  rfl

/-- Settles O53: in the raster equation a row counts by its half only and a column by its quarter only, and every pixel is the
palette's entry of a colour index. -/
theorem replicationAndClosedColours : Obligations.ReplicationAndClosedColours := by
  intro s start len
  obtain ⟨t, ht, done, read⟩ := rasterEquation s start len
  refine ⟨t, ht, done, fun y k h ch hy hk hh hch => ?_, fun j x ch hj hx hch => ?_, fun y x hy hx => ?_⟩
  · have column : (4 * k + h) / 4 = 4 * k / 4 := by omega
    rw [read y (4 * k + h) ch hy (by omega) hch, read y (4 * k) ch hy (by omega) hch, column]
  · have row : 2 * j / 2 = (2 * j + 1) / 2 := by omega
    rw [read (2 * j) x ch (by omega) hx hch, read (2 * j + 1) x ch (by omega) hx hch, row]
  · exact ⟨cidxAt s.srcFun (y / 2) (x / 4), fun ch hch => read y x ch hy hx hch⟩

end Sys2Proof.Machine
end

section
/-! PROOFS: the sequencer and its commands (44_sequencer_and_commands R175 to R183): which operation a step runs, and what
DECODE, CHKLEN, WAIT, the chain and ADVANCE do. -/

namespace Sys2Proof.Machine

variable {s : State}

/-! ### The operation of a step (R176, R179) -/

/-- Settles O1: `fetch` reads the pin first, then the command, then the sequencer's word. -/
theorem stepRunsSelectedOperation : Obligations.StepRunsSelectedOperation := by
  refine fun s => ⟨fun hr => step_of_fetch (fetch_reset hr), fun hr hc => step_of_fetch (fetch_decode hr hc), ?_⟩
  rintro i ⟨hr, hc⟩ hi
  refine step_of_fetch ?_
  rw [fetch_uop hr hc, ← hi]
  exact (decode_opWord s.ph s.pat).symm

/-- Settles O2, phase by phase. -/
theorem phaseSelectsOperation : Obligations.PhaseSelectsOperation := by
  intro s ports
  rw [ports.step_eq rfl]
  cases s.ph <;> rfl

/-! ### DECODE and CHKLEN (R177, R178, R181) -/

theorem execDecode_of_free (free : s.status ≠ .busy) : execDecode s = .next (s.accept.setPorts s.resetPin false) :=
  if_neg free

theorem execDecode_of_busy (busy : s.status = .busy) : execDecode s = .next (s.setPorts s.resetPin false) :=
  if_pos busy

theorem execChklen_of_long (len : 0x4000 ≤ s.srcLen) : execChklen s = .next (s.setPh .amlook) :=
  if_neg (Nat.not_lt.2 len)

theorem execChklen_of_short (len : s.srcLen < 0x4000) : execChklen s = raiseError .invalidInputLength s :=
  if_pos len

/-- Settles O24: the accepted command clears the core and enters CHKLEN; no memory is touched. -/
theorem decodeAccepted : Obligations.DecodeAccepted := fun _ free =>
  ⟨_, execDecode_of_free free, rfl, rfl, rfl, rfl, rfl, rfl, rfl, rfl, rfl, rfl, rfl, rfl, rfl, rfl, rfl, rfl,
    fun _ => rfl, fun _ => rfl, rfl⟩

/-- Settles O25: only the port is written. -/
theorem decodeIgnoredWhileBusy : Obligations.DecodeIgnoredWhileBusy := fun _ busy => execDecode_of_busy busy

/-- Settles O28, on both sides of the check. -/
theorem chklenChecksLength : Obligations.ChklenChecksLength := fun _ => ⟨execChklen_of_long, execChklen_of_short⟩

/-! ### WAIT (R180) -/

/-- The phases in which the machine waits for the host. -/
def Phase.Waits (p : Phase) : Prop := p = .idle ∨ p = .done ∨ p = .fail

theorem State.portsIdle.step_of_waits (ports : s.portsIdle) (hp : s.ph.Waits) : step s = .next s := by
  obtain hp | hp | hp := hp <;> exact ports.step_eq hp

/-- Without a host event a waiting machine stays as it is, however long (R193). -/
theorem State.portsIdle.stepN_of_waits (ports : s.portsIdle) (hp : s.ph.Waits) (n : Nat) : stepN n s = .next s := by
  induction n with
  | zero => rfl
  | succ n ih => rw [stepN_succ_next (ports.step_of_waits hp), ih]

/-- Settles O29. -/
theorem waitChangesNothing : Obligations.WaitChangesNothing := fun _ =>
  ⟨rfl, rfl, rfl, fun hp ports => ports.step_of_waits hp⟩

/-! ### The chain and ADVANCE (R182, R183) -/

@[simp] theorem State.pos_moveTo (s : State) (p : Position) : (s.moveTo p).pos = p := rfl
@[simp] theorem State.moveTo_ph (s : State) (p : Position) : (s.moveTo p).ph = p.ph := rfl
@[simp] theorem State.moveTo_row (s : State) (p : Position) : (s.moveTo p).row = p.row := rfl
@[simp] theorem State.moveTo_grp (s : State) (p : Position) : (s.moveTo p).grp = p.grp := rfl
@[simp] theorem State.moveTo_pat (s : State) (p : Position) : (s.moveTo p).pat = p.pat := rfl
@[simp] theorem State.moveTo_vrep (s : State) (p : Position) : (s.moveTo p).vrep = p.vrep := rfl
@[simp] theorem State.moveTo_hrep (s : State) (p : Position) : (s.moveTo p).hrep = p.hrep := rfl

/-- Settles O30, effect by effect: the chain's operations write latches and PH, and WRPIX moves to ADVANCE of the
position. -/
theorem chainKeepsCounters : Obligations.ChainKeepsCounters := by
  intro s t i h
  cases exec_eq_next h with
  | slice op =>
    simp only [List.mem_cons, List.not_mem_nil, or_false] at op
    obtain rfl | rfl | rfl | rfl | rfl | rfl | rfl := op <;> simp
  | wait op =>
    simp only [List.mem_cons, List.not_mem_nil, or_false] at op
    obtain rfl | rfl | rfl := op <;> simp
  | decodeIgnored | decodeAccepted | reset | lengthAccepted | lengthRejected | amlook | groupFetched | groupOutOfRange
    | rev4 | pallook | wrpix => simp

/-- Settles O22: WRPIX moves to ADVANCE of the position, whose six cases are those of the statement; a counter that is
not at its last value does not wrap. -/
theorem wrpixAdvances : Obligations.WrpixAdvances := by
  intro s p pix
  refine ⟨_, withLatch_of_some pix, ?_⟩
  have cases := advance_cases s.pos
  simp only [State.pos_hrep, State.pos_vrep, State.pos_pat, State.pos_grp, State.pos_row] at cases
  obtain ⟨h, e⟩ | ⟨h, v, e⟩ | ⟨h, v, i, e⟩ | ⟨h, v, i, g, e⟩ | ⟨h, v, i, g, r, e⟩ | ⟨h, v, i, g, r, e⟩ := cases
  · have next : (s.hrep + 1).val = s.hrep.val + 1 := by omega
    simp [h, e, next]
  · simp [h, v, e]
  · have next : (s.pat + 1).val = s.pat.val + 1 := by omega
    simp [h, v, i, e, next]
  · have next : (s.grp + 1).val = s.grp.val + 1 := by omega
    simp [h, v, i, g, e, next]
  · have next : (s.row + 1).val = s.row.val + 1 := by omega
    simp [h, v, i, g, r, e, next]
  · simp [h, v, i, g, r, e]

end Sys2Proof.Machine
end

section
/-! PROOFS: progress (44_sequencer_and_commands R186, R188, R193): every state of the invariant steps on, and every
transaction ends. -/

namespace Sys2Proof.Machine

variable {s : State}

/-! ### Every state of the invariant steps on -/

theorem exists_execDecode (s : State) : ∃ t, execDecode s = .next t := by
  obtain ⟨_, e⟩ | ⟨_, e⟩ := execDecode_cases s <;> exact ⟨_, e⟩

theorem exists_execChklen (s : State) : ∃ t, execChklen s = .next t := by
  obtain ⟨_, e⟩ | ⟨_, e⟩ := execChklen_cases s <;> exact ⟨_, e⟩

/-- The operation that the phase selects finds a value in every latch that it reads (10_state R38). -/
theorem State.SequencerInv.exists_exec_operationOf (h : s.SequencerInv) :
    ∃ t, exec (operationOf s.ph s.pat) s = .next t := by
  cases hp : s.ph with
  | idle | amlook | done | fail => exact ⟨_, rfl⟩
  | chklen => exact exists_execChklen s
  | fetch4 => exact ⟨_, h.exec_fetch4 hp⟩
  | slice => exact ⟨_, h.exec_slice hp⟩
  | rev4 => exact ⟨_, h.exec_rev4 hp⟩
  | pallook => exact ⟨_, h.exec_pallook hp⟩
  | wrpix => exact ⟨_, h.exec_wrpix hp⟩

/-- Settles O44: RESET and DECODE read no latch, and the phase's operation finds its latches filled. -/
theorem invariantStatesStepOn : Obligations.InvariantStatesStepOn := by
  intro s h
  cases hr : s.resetPin with
  | true => exact ⟨_, step_of_fetch (fetch_reset hr)⟩
  | false =>
    cases hc : s.cmd with
    | true =>
      rw [step_of_fetch (fetch_decode hr hc)]
      exact exists_execDecode s
    | false =>
      rw [step_of_fetch (fetch_uop hr hc)]
      exact h.exists_exec_operationOf

/-! ### Every transaction ends -/

theorem mapNext_eq_next {f : State → State} {x : Result} {t : State} (h : mapNext f x = .next t) :
    ∃ u, x = .next u ∧ f u = t := by
  cases x with
  | next u => exact ⟨u, rfl, Host.Outcome.next.inj h⟩
  | fault | refused => cases h

theorem operationOf_eq_chklen {p : Phase} {i : Fin 7} (h : operationOf p i = .chklen) : p = .chklen := by
  cases p <;> revert i <;> decide

theorem Position.stepsLeft_le (p : Position) : p.stepsLeft ≤ 299713 := by
  have chain : stepsToWrite p.ph ≤ 6 := by cases p.ph <;> decide
  rw [Position.stepsLeft]
  split <;> omega

/-- CHKLEN of a length that is too short goes to FAIL. -/
theorem State.portsIdle.step_of_short (ports : s.portsIdle) (hp : s.ph = .chklen) (len : s.srcLen < 0x4000) :
    step s = raiseError .invalidInputLength s :=
  (ports.step_eq hp).trans (execChklen_of_short len)

/-- No operation but CHKLEN reads SRC_LEN: where CHKLEN does not reject it, the machine goes on as under a length that
passes. -/
theorem State.SequencerInv.exists_nearer (h : s.SequencerInv) (ports : s.portsIdle) (busy : s.status = .busy)
    (hw : s.ph ≠ .wrpix) (len : s.ph = .chklen → 0x4000 ≤ s.srcLen) :
    ∃ t, step s = .next t ∧ t.status = .busy ∧ t.portsIdle ∧ t.pos.stepsLeft + 1 = s.pos.stepsLeft := by
  have inv : (s.setSource s.src (max s.srcLen 0x4000)).SequencerInv := h.ofHostFields _ _ _ _ _
  have idle : (s.setSource s.src (max s.srcLen 0x4000)).portsIdle := ports
  obtain ⟨t', ht', c⟩ := inv.exists_chainStep idle (le_max_right _ _) busy hw
  rw [idle.step_eq rfl, State.setSource_ph, State.setSource_pat,
    exec_setSource _ _ (fun op => max_eq_left (len (operationOf_eq_chklen op))) fun _ => rfl] at ht'
  obtain ⟨t, ht, rfl⟩ := mapNext_eq_next ht'
  exact ⟨t, (ports.step_eq rfl).trans ht, c.busy, ⟨c.ports.1.trans ports.1, c.ports.2.trans ports.2⟩, c.stepsLeft busy⟩

/-- One step of a transaction, whether it will succeed or fail: it ends here, or comes nearer to DONE. -/
theorem State.SequencerInv.exists_busyStep (h : s.SequencerInv) (ports : s.portsIdle) (busy : s.status = .busy) :
    ∃ t, step s = .next t ∧ ((t.status = .done ∨ t.status = .fail) ∨
      t.status = .busy ∧ t.portsIdle ∧ t.pos.stepsLeft + 1 = s.pos.stepsLeft) := by
  by_cases hw : s.ph = .wrpix
  · refine ⟨_, (ports.step_eq hw).trans (h.exec_wrpix hw), ?_⟩
    obtain on | done := advance_phase s.pos
    · exact .inr ⟨on, ports, advance_stepsLeft hw⟩
    · exact .inl (.inl (congrArg statusOf done))
  · by_cases short : s.ph = .chklen ∧ s.srcLen < 0x4000
    · exact ⟨_, ports.step_of_short short.1 short.2, .inl (.inr rfl)⟩
    · obtain ⟨t, ht, nearer⟩ := h.exists_nearer ports busy hw fun hp => Nat.not_lt.1 fun len => short ⟨hp, len⟩
      exact ⟨t, ht, .inr nearer⟩

/-- A transaction ends within the steps its position has left. -/
theorem State.SequencerInv.exists_end (h : s.SequencerInv) (ports : s.portsIdle) (busy : s.status = .busy) :
    ∃ n t, n ≤ s.pos.stepsLeft ∧ stepN n s = .next t ∧ (t.status = .done ∨ t.status = .fail) := by
  induction left : s.pos.stepsLeft generalizing s with
  | zero => exact absurd (Position.ph_eq_done_of_stepsLeft left) (State.ph_ne_done_of_busy busy)
  | succ k ih =>
    obtain ⟨u, hu, ended | ⟨busy, ports, nearer⟩⟩ := h.exists_busyStep ports busy
    · exact ⟨1, u, by omega, stepN_succ_next hu, ended⟩
    · obtain ⟨n, t, hn, ht, ended⟩ := ih (step_sequencerInv h hu) ports busy (by omega)
      exact ⟨n + 1, t, by omega, (stepN_succ_next hu).trans ht, ended⟩

/-- Settles O55: no position has more than 299713 steps left. -/
theorem everyTransactionEnds : Obligations.EveryTransactionEnds := by
  intro s h ports busy
  obtain ⟨n, t, hn, ht, ended⟩ := h.exists_end ports busy
  exact ⟨n, t, hn.trans s.pos.stepsLeft_le, ht, ended⟩

end Sys2Proof.Machine
end

section
/-! PROOFS: the function `decode` and the step relation agree (44_sequencer_and_commands R190 to R193). -/

namespace Sys2Proof.Machine

variable {s : State}

/-! ### `decode` (R190) -/

theorem bigDecode_of_short (pal : Index → Pixel) (src : Nat → Byte) {len : Nat} (h : len < 0x4000) :
    bigDecode pal src len = .failure .invalidInputLength :=
  if_pos h

theorem bigDecode_of_long (pal : Index → Pixel) (src : Nat → Byte) {len : Nat} (h : 0x4000 ≤ len) :
    bigDecode pal src len = .success ((List.range 645120).map (outByte pal src)) :=
  if_neg (Nat.not_lt.2 h)

theorem length_outBytes (pal : Index → Pixel) (src : Nat → Byte) (n : Nat) :
    ((List.range n).map (outByte pal src)).length = n := by
  rw [List.length_map, List.length_range]

theorem getElem?_outBytes (pal : Index → Pixel) (src : Nat → Byte) {n a : Nat} (ha : a < n) :
    ((List.range n).map (outByte pal src))[a]? = some (outByte pal src a) := by
  rw [List.getElem?_map, List.getElem?_range ha, Option.map_some]

/-- Settles O58: byte `ch` of a row and column is channel `ch` of the pixel there, and a group's last byte lies below
0x4000. -/
theorem bigDecodeBytes : Obligations.BigDecodeBytes := by
  refine fun pal src len => ⟨bigDecode_of_short pal src, fun long =>
    ⟨_, bigDecode_of_long pal src long, length_outBytes pal src _, fun y x hy hx => ?_⟩⟩
  have bank : baseOffset (y / 2) ≤ 0x1FD0 := baseOffset_le ⟨y / 2, by omega⟩
  have byte : ∀ ch, ch < 3 → ((List.range 645120).map (outByte pal src))[3 * (560 * y + x) + ch]? =
      some (channel (pixelAt pal src y x) ch) := fun ch hch => by
    rw [getElem?_outBytes pal src (by omega), outByte_of_rowColumn pal src y hx hch]
  exact ⟨by omega, byte 0 (by decide), byte 1 (by decide), byte 2 (by decide)⟩

/-! ### The two levels agree (R191, R193) -/

/-- A transaction whose length is too short: the command, then CHKLEN's failure. -/
theorem State.StartsTransaction.exists_fail (h : s.StartsTransaction) (len : s.srcLen < 0x4000) :
    ∃ t, stepN 2 s = .next t ∧ t.portsIdle ∧ t.ph = .fail ∧ t.err = .invalidInputLength ∧ t.raster = s.raster := by
  obtain ⟨free, hr, hc⟩ := h
  have command : step s = .next (s.accept.setPorts s.resetPin false) :=
    (step_of_fetch (fetch_decode hr hc)).trans (execDecode_of_free free)
  have check := State.portsIdle.step_of_short (s := s.accept.setPorts s.resetPin false) ⟨hr, rfl⟩ rfl len
  exact ⟨_, (stepN_succ_next command).trans (stepN_succ_next check), ⟨hr, rfl⟩, rfl, rfl, rfl⟩

/-- Before its last step a transaction that passes the length check is BUSY. -/
theorem State.StartsTransaction.exists_busy (h : s.StartsTransaction) (len : 0x4000 ≤ s.srcLen) {n : Nat}
    (first : 1 ≤ n) (last : n ≤ 299713) : ∃ t, stepN n s = .next t ∧ t.status = .busy := by
  obtain ⟨k, rfl⟩ := Nat.exists_eq_add_of_le' first
  obtain ⟨u, hu, decoding, start⟩ := h.exists_step len
  have left : u.pos.stepsLeft = 299713 := start ▸ Position.stepsLeft_start
  obtain ⟨t, ht, decoding, left'⟩ := decoding.exists_stepN (n := k) (by omega)
  refine ⟨t, (stepN_succ_next hu).trans ht, decoding.phase.resolve_right fun done => ?_⟩
  rw [Position.stepsLeft_of_done (p := t.pos) done] at left'
  omega

/-- Settles O51, on both sides of the length check. -/
theorem smallStepMeetsBigStep : Obligations.SmallStepMeetsBigStep := by
  intro s start
  by_cases len : s.srcLen < 0x4000
  · rw [bigDecode_of_short _ _ len]
    obtain ⟨t, ht, ports, fail, err, raster⟩ := start.exists_fail len
    exact ⟨t, ht, fail, err, rfl, raster, fun n =>
      (stepN_add ht).trans (ports.stepN_of_waits (.inr (.inr fail)) n)⟩
  · have long : 0x4000 ≤ s.srcLen := Nat.not_lt.1 len
    rw [bigDecode_of_long _ _ long]
    obtain ⟨t, ht, decoding, done⟩ := start.exists_done long
    refine ⟨length_outBytes _ _ _, fun n first last => start.exists_busy long first last, t, ht, done,
      decoding.inv.err_eq_noError (by simp [done]), fun a ha => ?_, fun n =>
      (stepN_add ht).trans (decoding.ports.stepN_of_waits (.inr (.inl done)) n)⟩
    rw [decoding.read_of_done done ha, getElem?_outBytes _ _ ha]
    rfl

/-- Settles O56: the finished raster is a function of the bytes of SRC below 0x4000 alone. -/
theorem decodingIsPure : Obligations.DecodingIsPure := by
  intro s₁ s₂ start₁ start₂ len₁ len₂ same
  obtain ⟨t₁, ht₁, decoding₁, done₁⟩ := start₁.exists_done len₁
  obtain ⟨t₂, ht₂, decoding₂, done₂⟩ := start₂.exists_done len₂
  have agree : DataBitsAgree s₁.srcFun s₂.srcFun := fun a ha _ => congrArg (·.extractLsb' 0 7) (same a ha)
  refine ⟨t₁, t₂, ht₁, ht₂, done₁, done₂, ?_, fun a ha => ?_⟩
  · rw [decoding₁.inv.err_eq_noError (by simp [done₁]), decoding₂.inv.err_eq_noError (by simp [done₂])]
  · rw [decoding₁.read_of_done done₁ ha, decoding₂.read_of_done done₂ ha]
    exact congrArg some (agree.outByte_eq palRom ha)

end Sys2Proof.Machine
end

section
/-! PROOFS: the host's write of a byte of RASTER (44_sequencer_and_commands R194, 20_memory R52). -/

namespace Sys2Proof.Machine

variable {s : State}

theorem State.hostWriteRaster_of_free (free : s.status ≠ .busy) (hc : s.cmd = false) {a : Nat} (ha : a < 645120)
    (b : Byte) : s.hostWriteRaster a b =
      some ((s.setRaster (s.raster.write a b)).setRasterTrust (s.rasterTrust.add a)) :=
  if_pos ⟨s.hostOwns_iff.2 ⟨free, hc⟩, ha⟩

theorem State.hostWriteRaster_of_barred {a : Nat} (barred : s.status = .busy ∨ s.cmd = true ∨ 645120 ≤ a) (b : Byte) :
    s.hostWriteRaster a b = none := by
  refine if_neg ?_
  rw [s.hostOwns_iff]
  rintro ⟨⟨free, hc⟩, ha⟩
  obtain busy | issued | outside := barred
  · exact free busy
  · simp [hc] at issued
  · omega

/-- What the host reads at an address depends on the phase, and on RASTER and its record at that address alone. -/
theorem State.rasterView_congr {t : State} {x : Nat} (status : t.status = s.status)
    (covers : t.rasterTrust.covers x = s.rasterTrust.covers x) (read : t.raster.read x = s.raster.read x) :
    t.rasterView x = s.rasterView x := by
  rw [State.rasterView, State.rasterView, status, covers, read]

theorem State.rasterView_of_covers (free : s.status ≠ .busy) {a : Nat} (covers : s.rasterTrust.covers a = true)
    (ha : a < 645120) {b : Byte} (hb : s.raster.read a = some b) : s.rasterView a = .byte b := by
  simp [State.rasterView, Nat.not_le.2 ha, free, covers, hb]

theorem RasterTrust.covers_add_other {a x : Nat} (h : x ≠ a) (u : RasterTrust) : (u.add a).covers x = u.covers x := by
  rw [Bool.eq_iff_iff, RasterTrust.covers_add, or_iff_right h]

theorem State.MemoryInv.hostWriteRaster (h : s.MemoryInv) {a : Nat} (ha : a < 645120) (b : Byte) :
    ((s.setRaster (s.raster.write a b)).setRasterTrust (s.rasterTrust.add a)).MemoryInv where
  srcForm := h.srcForm
  srcRange := h.srcRange
  rasterForm := Memory.wf_write h.rasterForm a b
  rasterRange := Memory.below_write h.rasterRange ha b
  trustForm := RasterTrust.wf_add h.trustForm ha

/-- Settles O39: an allowed write adds one byte to RASTER and to the record of it. -/
theorem hostWritesRaster : Obligations.HostWritesRaster := by
  refine fun s a b => ⟨fun barred => State.hostWriteRaster_of_barred barred b, fun free hc ha =>
    ⟨_, State.hostWriteRaster_of_free free hc ha b, ?_, fun x hx => ?_, Memory.read_write_same _ a b,
      fun x hx => Memory.read_write_other hx _ b, rfl, fun h => h.hostWriteRaster ha b,
      fun h => h.ofHostFields _ _ _ _ _⟩⟩
  · have covers : (s.rasterTrust.add a).covers a = true := (RasterTrust.covers_add _ a a).2 (.inl rfl)
    refine State.rasterView_of_covers ?_ covers ha (Memory.read_write_same _ a b)
    exact free
  · exact State.rasterView_congr rfl (RasterTrust.covers_add_other hx _) (Memory.read_write_other hx _ b)

end Sys2Proof.Machine
end

section
/-! PROOFS: errors (60_exceptions R200 to R208, R218): what enters FAIL, what leaves it, and why OutOfRangeAccess cannot
happen. -/

namespace Sys2Proof.Machine

variable {i : Instr} {s t : State}

/-! ### What enters FAIL (R200 to R202) -/

theorem advance_ph_ne_fail (p : Position) : (advance p).ph ≠ .fail := by
  intro failed
  obtain busy | done := advance_phase p
  · simp [failed, statusOf] at busy
  · simp [failed] at done

/-- Every operation raises InvalidInputLength, raises OutOfRangeAccess, or neither enters FAIL nor sets an error. -/
theorem Effect.error_cases (e : Effect i s t) :
    (i = .chklen ∧ s.srcLen < 0x4000 ∧ t.err = .invalidInputLength) ∨
    (i = .fetch4 ∧ t.err = .outOfRangeAccess ∧ ∃ b, s.base = some b ∧ 0x2000 ≤ b.toNat + 2 * s.grp.val + 1) ∨
    ((t.ph = .fail → s.ph = .fail) ∧ (t.err = s.err ∨ t.err = .noError)) := by
  cases e with
  | lengthRejected len => exact .inl ⟨rfl, len, rfl⟩
  | groupOutOfRange base range => exact .inr (.inl ⟨rfl, rfl, _, base, range⟩)
  | decodeIgnored | wait => exact .inr (.inr ⟨id, .inl rfl⟩)
  | decodeAccepted | reset => exact .inr (.inr ⟨nofun, .inr rfl⟩)
  | wrpix => exact .inr (.inr ⟨fun failed => absurd failed (advance_ph_ne_fail _), .inl rfl⟩)
  | lengthAccepted | amlook | groupFetched | slice | rev4 | pallook => exact .inr (.inr ⟨nofun, .inl rfl⟩)

/-- Settles O34: an operation that raises neither error does not enter FAIL. -/
theorem errorsHaveOneRaiser : Obligations.ErrorsHaveOneRaiser := by
  intro i s t h before after
  obtain short | outOfRange | ⟨failed, _⟩ := (exec_eq_next h).error_cases
  · exact .inl short
  · exact .inr outOfRange
  · exact absurd (failed after) before

/-! ### OutOfRangeAccess cannot happen (R218) -/

theorem operationOf_eq_fetch4 {p : Phase} {i : Fin 7} (h : operationOf p i = .fetch4) : p = .fetch4 := by
  cases p <;> revert i <;> decide

/-- FETCH4 runs in its own phase only: neither host event selects it. -/
theorem ph_of_fetch_fetch4 (h : fetch s = .ok .fetch4) : s.ph = .fetch4 := by
  cases hr : s.resetPin with
  | true => cases (fetch_reset hr).symm.trans h
  | false =>
    cases hc : s.cmd with
    | true => cases (fetch_decode hr hc).symm.trans h
    | false => exact operationOf_eq_fetch4 (Except.ok.inj ((fetch_uop hr hc).symm.trans h))

/-- Where FETCH4 runs, BASE is a ROM entry, so that the group's last byte lies in its bank (10_state R38). -/
theorem State.SequencerInv.base_in_bank (h : s.SequencerInv) (hp : s.ph = .fetch4) :
    ∃ b, s.base = some b ∧ b.toNat ≤ 0x1FD0 ∧ b.toNat + 2 * s.grp.val + 1 ≤ 0x1FF7 := by
  have base : (baseRom s.row).toNat ≤ 0x1FD0 := baseRom_toNat s.row ▸ baseOffset_le s.row
  exact ⟨_, h.baseLatch (by simp [hp]), base, by omega⟩

/-- Settles O45: only FETCH4 raises the error, in its own phase, and there the range test passes. -/
theorem outOfRangeUnreachable : Obligations.OutOfRangeUnreachable := by
  refine ⟨fun s h hp => ?_, fun s t h before ht after => ?_⟩
  · obtain ⟨b, base, row, offset⟩ := h.base_in_bank hp
    exact ⟨b, base, row, offset, by omega⟩
  · obtain ⟨i, hi⟩ := fetch_total s
    rw [step_of_fetch hi] at ht
    obtain ⟨_, _, short⟩ | ⟨rfl, _, b, base, range⟩ | ⟨_, kept | cleared⟩ := (exec_eq_next ht).error_cases
    · simp [after] at short
    · obtain ⟨b', base', _, inBank⟩ := h.base_in_bank (ph_of_fetch_fetch4 hi)
      obtain rfl := Option.some.inj (base.symm.trans base')
      omega
    · exact before (kept.symm.trans after)
    · simp [after] at cleared

/-! ### What leaves FAIL (R208) -/

/-- Settles O46, by what stands on the ports: RESET, a DECODE, which is accepted in FAIL, or nothing. -/
theorem failIsLeftByDecodeOrReset : Obligations.FailIsLeftByDecodeOrReset := by
  intro s hp
  cases hr : s.resetPin with
  | true => exact ⟨_, step_of_fetch (fetch_reset hr), .inr (.inr ⟨rfl, rfl, rfl⟩)⟩
  | false =>
    cases hc : s.cmd with
    | true =>
      have free : s.status ≠ .busy := by simp [State.status, statusOf, hp]
      exact ⟨_, (step_of_fetch (fetch_decode hr hc)).trans (execDecode_of_free free),
        .inr (.inl ⟨rfl, rfl, rfl, rfl, rfl, rfl, rfl, rfl, rfl⟩)⟩
    | false =>
      have ports : s.portsIdle := ⟨hr, hc⟩
      exact ⟨s, ports.step_of_waits (.inr (.inr hp)), .inl ⟨rfl, rfl, rfl⟩⟩

end Sys2Proof.Machine
end

section
/-! PROOFS: reset and hazards (70_reset_and_hazards R230 to R242): RESET, the host's placing of its buffer, what ends BUSY, and
how many operations a transaction runs. -/

namespace Sys2Proof.Machine

variable {i : Instr} {s t : State}

/-! ### RESET (R230) -/

/-- Settles O26: RESET's updates clear the core and the record of RASTER, and touch neither memory. -/
theorem resetFromAnyState : Obligations.ResetFromAnyState := fun _ =>
  ⟨_, rfl, rfl, rfl, rfl, rfl, rfl, rfl, rfl, rfl, rfl, rfl, rfl, rfl, rfl, rfl, rfl, rfl, rfl,
    fun _ => rfl, fun _ => rfl, rfl, fun _ ha => State.rasterView_of_not_covers ha (RasterTrust.covers_only_nil _)⟩

/-! ### The host's placing of its buffer (R234 to R236) -/

theorem State.hostPlace_of_free (free : s.status ≠ .busy) (hc : s.cmd = false) (buffer : List Byte) :
    s.hostPlace buffer = some (s.setSource (placeFrom 0 (buffer.take 0x4000)) buffer.length) :=
  if_pos (s.hostOwns_iff.2 ⟨free, hc⟩)

theorem State.hostPlace_of_barred (barred : s.status = .busy ∨ s.cmd = true) (buffer : List Byte) :
    s.hostPlace buffer = none := by
  refine if_neg ?_
  rw [s.hostOwns_iff]
  rintro ⟨free, hc⟩
  obtain busy | issued := barred
  · exact free busy
  · simp [hc] at issued

/-- SRC after a placing holds the buffer's bytes as far as its addresses go (20_memory R50, R55). -/
theorem read_placeFrom_take (n a : Nat) (buffer : List Byte) :
    (placeFrom 0 (buffer.take n)).read a = if a < n then buffer[a]? else none := by
  have read := read_placeFrom 0 a (buffer.take n)
  rwa [Nat.zero_add, List.getElem?_take] at read

theorem below_placeFrom_take (n : Nat) (buffer : List Byte) : (placeFrom 0 (buffer.take n)).below n := by
  intro c hc
  have range := mem_placeFrom hc
  have length := List.length_take_le n buffer
  omega

theorem State.MemoryInv.setSource (h : s.MemoryInv) {m : Memory} (form : m.wf) (range : m.below 0x4000) (n : Nat) :
    (s.setSource m n).MemoryInv where
  srcForm := form
  srcRange := range
  rasterForm := h.rasterForm
  rasterRange := h.rasterRange
  trustForm := h.trustForm

/-- The phases in which a latch holds something of SRC are BUSY ones (10_state R38). -/
theorem State.busy_of_groupLatched (hp : s.ph ∈ [Phase.slice, .rev4, .pallook, .wrpix]) : s.status = .busy := by
  simp only [List.mem_cons, List.not_mem_nil, or_false] at hp
  obtain hp | hp | hp | hp := hp <;> simp [State.status, statusOf, hp]

/-- Outside BUSY no clause of the invariant speaks of SRC. -/
theorem State.SequencerInv.setSource (h : s.SequencerInv) (free : s.status ≠ .busy) (m : Memory) (n : Nat) :
    (s.setSource m n).SequencerInv where
  baseLatch := h.baseLatch
  groupLatches hp := absurd (State.busy_of_groupLatched hp) free
  pidxLatch hp := absurd (State.busy_of_groupLatched (.tail _ hp)) free
  cidxLatch hp := absurd (State.busy_of_groupLatched (.tail _ (.tail _ hp))) free
  pixLatch hp := absurd (State.busy_of_groupLatched (.tail _ (.tail _ (.tail _ (List.mem_singleton.2 hp))))) free
  copies := h.copies
  patStart := h.patStart
  grpStart := h.grpStart
  rowStart := h.rowStart
  noValue := h.noValue
  errFail := h.errFail

/-- Settles O38: an allowed placing sets SRC and SRC_LEN, and no latch holds anything of SRC then. -/
theorem hostPlacesBuffer : Obligations.HostPlacesBuffer := by
  refine fun s buffer => ⟨fun barred => State.hostPlace_of_barred barred buffer, fun free hc =>
    ⟨_, State.hostPlace_of_free free hc buffer, rfl, fun a b ha hb => srcByte_of_read ?_, fun a ha => ?_, rfl,
      fun h => h.setSource (wf_placeFrom 0 _) (below_placeFrom_take _ buffer) _, fun h => h.setSource free _ _⟩⟩
  · rw [State.setSource_src, read_placeFrom_take, if_pos ha, hb]
  · rw [State.setSource_src, read_placeFrom_take, if_neg (Nat.not_lt.2 ha)]

/-! ### What ends BUSY (R231) -/

/-- ADVANCE goes on to a BUSY phase, but for FINISH at the last position (44_sequencer_and_commands R183, R184). -/
theorem advance_busy_or_finish (p : Position) : statusOf (advance p).ph = .busy ∨
    ((advance p).ph = .done ∧ p.row.val = 191 ∧ p.grp.val = 19 ∧ p.pat.val = 6 ∧ p.vrep.val = 1 ∧ p.hrep.val = 3) := by
  obtain ⟨_, e⟩ | ⟨_, _, e⟩ | ⟨_, _, _, e⟩ | ⟨_, _, _, _, e⟩ | ⟨_, _, _, _, _, e⟩ | ⟨hrep, vrep, pat, grp, row, e⟩ :=
    advance_cases p
  case inr.inr.inr.inr.inr => exact .inr ⟨by rw [e], row, grp, pat, congrArg Fin.val vrep, hrep⟩
  all_goals exact .inl (by rw [e]; rfl)

/-- An operation that finds the machine BUSY leaves it so, or is one of the four that end it. -/
theorem Effect.busy_cases (e : Effect i s t) (busy : s.status = .busy) :
    t.status = .busy ∨
    (i = .reset ∧ t.ph = .idle) ∨
    (i = .wrpix ∧ t.ph = .done ∧ s.row.val = 191 ∧ s.grp.val = 19 ∧ s.pat.val = 6 ∧ s.vrep.val = 1 ∧ s.hrep.val = 3) ∨
    (i = .chklen ∧ t.ph = .fail ∧ s.srcLen < 0x4000) ∨
    (i = .fetch4 ∧ t.ph = .fail ∧ t.err = .outOfRangeAccess) := by
  cases e with
  | reset => exact .inr (.inl ⟨rfl, rfl⟩)
  | wrpix => exact (advance_busy_or_finish s.pos).imp id fun finish => .inr (.inl ⟨rfl, finish⟩)
  | lengthRejected len => exact .inr (.inr (.inr (.inl ⟨rfl, rfl, len⟩)))
  | groupOutOfRange => exact .inr (.inr (.inr (.inr ⟨rfl, rfl, rfl⟩)))
  | decodeIgnored | wait => exact .inl busy
  | decodeAccepted | lengthAccepted | amlook | groupFetched | slice | rev4 | pallook => exact .inl rfl

theorem operationOf_eq_wrpix {p : Phase} {i : Fin 7} (h : operationOf p i = .wrpix) : p = .wrpix := by
  cases p <;> revert i <;> decide

theorem operationOf_ne_reset (p : Phase) (i : Fin 7) : operationOf p i ≠ .reset := by
  cases p <;> revert i <;> decide

/-- What stands on the ports where an operation is selected: RESET, a command, or nothing (30_encoding R91, R92). -/
theorem fetch_eq_ok (h : fetch s = .ok i) :
    (s.resetPin = true ∧ i = .reset) ∨ (s.resetPin = false ∧ s.cmd = true ∧ i = .decode) ∨
      (s.portsIdle ∧ operationOf s.ph s.pat = i) := by
  cases hr : s.resetPin with
  | true => exact .inl ⟨rfl, (Except.ok.inj ((fetch_reset hr).symm.trans h)).symm⟩
  | false =>
    cases hc : s.cmd with
    | true => exact .inr (.inl ⟨rfl, rfl, (Except.ok.inj ((fetch_decode hr hc).symm.trans h)).symm⟩)
    | false => exact .inr (.inr ⟨⟨hr, hc⟩, Except.ok.inj ((fetch_uop hr hc).symm.trans h)⟩)

/-- Settles O47: of the four operations that end BUSY, RESET runs by its pin and the others in their own phases. -/
theorem whatEndsBusy : Obligations.WhatEndsBusy := by
  intro s t busy ht free
  obtain ⟨i, hi⟩ := fetch_total s
  rw [step_of_fetch hi] at ht
  have ended := ((exec_eq_next ht).busy_cases busy).resolve_left free
  obtain ⟨hr, rfl⟩ | ⟨_, _, rfl⟩ | ⟨ports, op⟩ := fetch_eq_ok hi
  · obtain rfl := Host.Outcome.next.inj ht
    exact .inl ⟨hr, rfl⟩
  · simp at ended
  · obtain ⟨rfl, _⟩ | ⟨rfl, finish⟩ | ⟨rfl, failed⟩ | ⟨rfl, failed⟩ := ended
    · exact absurd op (operationOf_ne_reset _ _)
    · exact .inr (.inl ⟨ports, operationOf_eq_wrpix op, finish⟩)
    · exact .inr (.inr (.inl ⟨ports, operationOf_eq_chklen op, failed⟩))
    · exact .inr (.inr (.inr ⟨ports, operationOf_eq_fetch4 op, failed⟩))

/-! ### How many of each operation a transaction runs (R242, 30_encoding R98) -/

theorem count_flatten_replicate (op : Instr) (n : Nat) (l : List Instr) :
    (List.replicate n l).flatten.count op = n * l.count op := by
  simp [List.count_flatten]

theorem count_lineOps (op : Instr) :
    lineOps.count op = 20 * groupOps.count op + if Instr.amlook == op then 1 else 0 := by
  rw [lineOps, List.count_cons, count_flatten_replicate]

/-- A transaction's operations are its CHKLEN, 192 AMLOOK and 3840 times those of a GROUP. -/
theorem count_transactionOps (op : Instr) :
    transactionOps.count op =
      192 * (20 * groupOps.count op + if Instr.amlook == op then 1 else 0) + if Instr.chklen == op then 1 else 0 := by
  rw [transactionOps, List.count_cons, count_flatten_replicate, count_lineOps]

theorem count_groupOps_sliceOp (i : Fin 7) : groupOps.count (sliceOp i) = 1 := by
  revert i
  decide

/-- Settles O50: only the 78 operations of one GROUP are counted one by one. -/
theorem operationCounts : Obligations.OperationCounts := by
  refine ⟨fun _ => rfl, length_groupOps, length_lineOps, length_transactionOps, ?_, ?_, ?_, fun i => ?slices, ?_, ?_, ?_⟩ <;>
    rw [count_transactionOps]
  case slices =>
    rw [count_groupOps_sliceOp]
    revert i
    decide
  all_goals decide

end Sys2Proof.Machine
end
